-- ==== Sys2Proof/Word.lean ====
section
/-! DEFINITION. The bit vectors the spec itself calls bits: a byte of the host link, a character of a field line, an event
mask and a zone set. Counts, numbers and levels are natural numbers. -/

namespace Sys2Proof

/-- A byte of a host link frame (R186) or of a payload (R188). -/
abbrev Byte := BitVec 8

/-- A character of a field line frame: nine data bits, the ninth being 1 in a start mark only (R187). -/
abbrev Char9 := BitVec 9

/-- A set of event kinds in the coding of R190: bit k is present when the kind of bit k is a member. -/
abbrev EventSet := BitVec 16

/-- A set of zones in the coding of R190: zone z is a member when bit z is 1. -/
abbrev ZoneSet := BitVec 32

end Sys2Proof
end

