-- ==== Sys2Proof/Config.lean ====
section
/-! DEFINITION. What the spec fixes once for the part (numbers of records, fixed tick counts, the part identity), and the
free values: constants without a body, of which nothing can be proved beyond their type. -/

namespace Sys2Proof.Config

/-- Number of bays (R1). -/
def bayCount : Nat := 2048
/-- Number of rows, sixteen bays each (R22). -/
def rowCount : Nat := 128
/-- Number of zones (R27). -/
def zoneCount : Nat := 32
/-- Number of entrances (R38). -/
def entranceCount : Nat := 8
/-- Number of field lines (R63). -/
def lineCount : Nat := 4
/-- Highest node address of a line (R65). -/
def lastAddress : Nat := 63
/-- Number of signs (R149). -/
def signCount : Nat := 32
/-- The entrance a hold of the host carries (R11, R145). -/
def hostEntrance : Nat := 8
/-- The window timer of a row edit at EDIT_OPEN and EDIT_PUT (R45, R46). -/
def windowTicks : Nat := 600
/-- The cursor value that stands for END, as it is coded on the wire (R44, R191). -/
def cursorEnd : Nat := 16
/-- The probe timer of a line in FAULT (R82, R83). -/
def probeTicks : Nat := 10
/-- The miss count at which a LIVE node goes SILENT (R72). -/
def silenceLimit : Nat := 5
/-- The route cost that means unreachable (R38). -/
def unreachable : Nat := 255
/-- Part code (R40). -/
def partCode : Nat := 640
/-- Revision letter A, as its character code (R40, R191). -/
def revisionLetter : Nat := 65

/-- FREE VALUE (log entry 3): whether a host transaction is in progress when the start-up time ends, one that will have
clocked at least one whole byte at its end. The host may begin one at any moment, and no command carries its beginning. -/
opaque transactionBegun : Nat → Bool

/-- FREE VALUE (log entry 8): the milliseconds by which a break measure grew since it last stood still. The spec says how it
grows (R81) and no command carries the time. -/
opaque breakElapsed : Nat → Nat

/-- FREE VALUE (log entry 9): the step count of a sequence one step after a count of 4. R121 and R123 let it rise by one,
R120 gives its values as 0 to 4. The model keeps the bound 4. -/
opaque stepsPastFour : Nat → Nat

/-- FREE VALUE (log entry 10): the place of an item among items whose effects the spec leaves without order, for the n-th
such choice. -/
opaque rank : Nat → Nat → Nat

/-- FREE VALUE (log entry 13): the line byte of a sign that names no node, as GET_SIGN returns it. R190 gives address 0 for
none and says of the line byte only that it is ignored. -/
opaque noNodeLineByte : Byte

end Sys2Proof.Config
end

