-- ==== Sys2Proof/Syntax.lean ====
section
/-! DEFINITION. The commands of the part: one constructor for each row of spec/opcode_table.json. A host request carries
its parameters as the numbers its frame carries (R190), in range or not. An event carries the number of the record it
happens at. -/

namespace Sys2Proof

/-- The configuration values that a ZONE_SET carries, in the order of R190 (bytes 2 to 30). -/
structure ZoneParams where
  level : Nat
  lo : Nat
  hi : Nat
  raisedOn : Nat
  highOn : Nat
  purgeOn : Nat
  bandH : Nat
  kRise : Nat
  kFall : Nat
  loadWeight : Nat
  demandH : Nat
  blindStage : Nat
  staleTicks : Nat
  proofTicks : Nat
  rundownTicks : Nat
  dwellUp : Nat
  dwellDown : Nat
  mask : EventSet
  deriving DecidableEq, Repr

/-- The values that a SITE_SET carries, in the order of R190 (bytes 0 to 17). -/
structure SiteParams where
  settleTicks : Nat
  departTicks : Nat
  holdTicks : Nat
  raisedPenalty : Nat
  holdWeight : Nat
  base : Nat
  guide : Nat
  active : Nat
  parked : Nat
  aisleIdle : Nat
  aisleActive : Nat
  aisleTicks : Nat
  mask : EventSet
  deriving DecidableEq, Repr

/-- The commands of the part, in the order of spec/opcode_table.json. -/
inductive Instr where
  /-- GET_BAY (R21). -/
  | getBay (bay : Nat)
  /-- GET_ROW (R22). -/
  | getRow (row : Nat)
  /-- BAY_CLOSE (R23). -/
  | bayClose (bay : Nat)
  /-- BAY_OPEN (R23). -/
  | bayOpen (bay : Nat)
  /-- HOLD_RELEASE (R24). -/
  | holdRelease (bay : Nat)
  /-- ZONE_SET asking for IN_USE (R29, R30). `useState` is the use state byte: 1 asks for IN_USE, a byte that is neither 0
  nor 1 names no use state and is refused with RANGE (R29). -/
  | zoneSetInUse (zone : Nat) (useState : Nat) (cfg : ZoneParams)
  /-- ZONE_SET asking for FREE (R31). -/
  | zoneSetFree (zone : Nat) (cfg : ZoneParams)
  /-- ZONE_SHED (R33). -/
  | zoneShed (zone : Nat)
  /-- ZONE_UNSHED (R33). -/
  | zoneUnshed (zone : Nat)
  /-- GET_ZONE (R35). -/
  | getZone (zone : Nat)
  /-- ROUTE_SET (R38). -/
  | routeSet (entrance zone cost : Nat)
  /-- GET_ROUTES (R39). -/
  | getRoutes (entrance : Nat)
  /-- SITE_SET (R41, R42). -/
  | siteSet (site : SiteParams)
  /-- GET_SITE (R43). -/
  | getSite
  /-- EDIT_OPEN (R45). -/
  | editOpen (row offset : Nat)
  /-- EDIT_PUT (R46): zone, class code, closed flag. -/
  | editPut (zone cls closed : Nat)
  /-- EDIT_COMMIT (R49). -/
  | editCommit
  /-- EDIT_DROP (R48). -/
  | editDrop
  /-- NODE_BIND (R54): line, address, kind code, and the two binding bytes. -/
  | nodeBind (line address kind b1 b2 : Nat)
  /-- NODE_RETIRE (R55). -/
  | nodeRetire (line address : Nat)
  /-- NODE_BAR (R56). -/
  | nodeBar (line address : Nat)
  /-- NODE_UNBAR (R57). -/
  | nodeUnbar (line address : Nat)
  /-- ZONE_SLOT, bind form (R58). `form` is the form byte: 0 binds, a byte that names no form is refused with RANGE (R190). -/
  | zoneSlotBind (form zone line address channel ref : Nat)
  /-- ZONE_SLOT, unbind form (R59). `form` is the form byte: 1 unbinds, a byte that names no form is refused with RANGE. -/
  | zoneSlotUnbind (form zone slot : Nat)
  /-- ZONE_STAGE, bind form (R60). `form` as for ZONE_SLOT. -/
  | zoneStageBind (form zone line address : Nat)
  /-- ZONE_STAGE, unbind form (R61). `form` as for ZONE_SLOT. -/
  | zoneStageUnbind (form zone stage : Nat)
  /-- GET_NODE (R89). -/
  | getNode (line address : Nat)
  /-- ZONE_FLOOR (R115). -/
  | zoneFloor (zone floor : Nat)
  /-- FAN_RESET (R126). -/
  | fanReset (zone stage : Nat)
  /-- HOLD_PLACE by bay (R145). -/
  | holdPlaceByBay (bay ticket : Nat)
  /-- HOLD_PLACE best (R146): entrance, class code, ticket. -/
  | holdPlaceBest (entrance cls ticket : Nat)
  /-- SIGN_SET (R154, R155): sign, node bytes, mode code, zone set, filter code, character codes. Address 0 means no node. -/
  | signSet (sign line address mode : Nat) (zones : ZoneSet) (filter : Nat) (text : List Byte)
  /-- GET_SIGN (R156). -/
  | getSign (sign : Nat)
  /-- EVENTS_TAKE (R174). -/
  | eventsTake (set : Nat) (clear : EventSet)
  /-- EVENTS_SUMMARY (R175). -/
  | eventsSummary
  /-- CLEAR (R184). -/
  | clear
  /-- A whole request frame whose code is none of the part's codes (R180). -/
  | unknownRequest (code : Nat) (params : List Byte)
  /-- A read transaction in which `clocked` bytes are clocked, the READ byte included (R179, R183). -/
  | read (clocked : Nat)
  /-- Assertion of RESET (R185). -/
  | resetAssert
  /-- Release of RESET, or the supply coming up (R185). -/
  | resetRelease
  /-- End of the start-up time (R185). -/
  | startUpEnd
  /-- The settle timer of a bay expires (R6). -/
  | settleTimerExpiry (bay : Nat)
  /-- The depart timer of a bay expires (R7). -/
  | departTimerExpiry (bay : Nat)
  /-- The hold timer of a bay expires (R12). -/
  | holdTimerExpiry (bay : Nat)
  /-- The window timer of the row edit expires (R47). -/
  | windowTimerExpiry
  /-- The age timer of a gas slot, numbered from 1, expires (R94). -/
  | ageTimerExpiry (zone slot : Nat)
  /-- The proof timer of a fan stage, numbered from 1, expires (R122). -/
  | proofTimerExpiry (zone stage : Nat)
  /-- The rundown timer of a fan stage, numbered from 1, expires (R123). -/
  | rundownTimerExpiry (zone stage : Nat)
  /-- The dwell timer of a zone's sequencer expires (R124). -/
  | dwellTimerExpiry (zone : Nat)
  /-- The aisle timer of a row node expires (R164). -/
  | aisleTimerExpiry (line address : Nat)
  /-- The probe timer of a line expires (R83). -/
  | probeTimerExpiry (line : Nat)
  /-- A probe watch ends; `idle` says whether the receive input was at the idle level throughout (R83). -/
  | probeWatchEnd (line : Nat) (idle : Bool)
  /-- A line's controller starts a visit (R69). -/
  | visitStart (line : Nat)
  /-- A reply is taken whole on a line; `chars` are its characters (R70, R73, R187). -/
  | validReply (line : Nat) (chars : List Char9)
  /-- The reply window closes with no reply begun (R71). -/
  | replyWindowClose (line : Nat)
  /-- A reply begun is found bad: damaged, cut by a start mark, paused or late (R70, R71). -/
  | badReply (line : Nat)
  /-- A line's break measure reaches 20 ms (R82). -/
  | breakDetected (line : Nat)
  /-- The timebase tick (R6 and the other timer rules). -/
  | tick
  /-- The receive input of a line goes to the break level (`atBreak`) or leaves it (R81). -/
  | breakLevelChange (line : Nat) (atBreak : Bool)
  /-- The part finishes sending its frame on a line (R70). -/
  | frameSent (line : Nat)
  /-- A request transaction whose bytes name no request (R180). -/
  | malformedRequest (bytes : List Byte)
  deriving DecidableEq, Repr

end Sys2Proof
end

