-- ==== Sys2Proof/Machine/State.lean ====
section
/-! DEFINITION. The state of the part: every record, timer, buffer, mode and pin the spec gives it, as plain data, with the
power-on value of each record beside it, and the two types of reasons a step may stop. -/

namespace Sys2Proof.Machine

/-! ## Event kinds (R171, coded in R190) -/

/-- The event kinds of the zone sets and of SITE (R171). -/
inductive EventKind where
  | bandUp | bandDown | full | opened | blind | sighted | fanFault | stageShort | holdLapsed | nodeSilent | nodeBack
  | lineFault | lineBack | signSilent | entrySilent | editExpired
  deriving DecidableEq, Repr

/-- The eleven kinds of a zone set: bits 0 to 10 (R171, R190). -/
def zoneKinds : EventSet := 0x07FF#16

/-- The seven kinds of the SITE set: bits 9 to 15 (R171, R190). -/
def siteKinds : EventSet := 0xFE00#16

/-! ## Bays (R1) -/

/-- The class of a bay (R1). -/
inductive BayClass where
  | standard | compact | accessible | charging | staff | retired
  deriving DecidableEq, Repr

/-- The part's belief about a bay (R1). -/
inductive Census where
  | vacant | arriving | parked | leaving | dark
  deriving DecidableEq, Repr

/-- The hold of a bay (R1, R11). -/
structure Hold where
  ticket : Nat
  entrance : Nat
  timer : Nat
  deriving DecidableEq, Repr

/-- A bay record (R1). -/
structure Bay where
  zone : Nat
  cls : BayClass
  closed : Bool
  census : Census
  stateTimer : Nat
  hold : Option Hold
  deriving DecidableEq, Repr

/-- Every bay record at power-on (R25). -/
def Bay.powerOn : Bay :=
  { zone := 0, cls := .retired, closed := false, census := .dark, stateTimer := 0, hold := none }

/-! ## Zones (R27) -/

/-- The configuration at power-on: the defaults of R29. -/
def defaultParams : ZoneParams :=
  { level := 1, lo := 300, hi := 900, raisedOn := 500, highOn := 800, purgeOn := 1200, bandH := 50, kRise := 1, kFall := 3,
    loadWeight := 40, demandH := 100, blindStage := 2, staleTicks := 150, proofTicks := 150, rundownTicks := 100,
    dwellUp := 300, dwellDown := 600, mask := zoneKinds }

/-- The tallies of a zone (R17). -/
structure Tallies where
  capacity : Nat
  vacant : Nat
  arriving : Nat
  parked : Nat
  leaving : Nat
  dark : Nat
  holds : Nat
  closed : Nat
  offeredStandard : Nat
  offeredCompact : Nat
  offeredAccessible : Nat
  offeredCharging : Nat
  deriving DecidableEq, Repr

/-- Every tally 0 (R25). -/
def Tallies.zero : Tallies := ⟨0, 0, 0, 0, 0, 0, 0, 0, 0, 0, 0, 0⟩

/-- The address of a node: line 0 to 3 and address 1 to 63 (R65). -/
structure NodeId where
  line : Nat
  address : Nat
  deriving DecidableEq, Repr

/-- A gas slot (R91). `age` is 0 while the slot is stale. -/
structure Slot where
  node : NodeId
  channel : Nat
  ref : Nat
  n : Nat
  fresh : Bool
  age : Nat
  deriving DecidableEq, Repr

/-- The fume band of a zone (R91). -/
inductive Band where
  | clear | raised | high | purge
  deriving DecidableEq, Repr

/-- The status of a fan stage (R117). -/
inductive StageStatus where
  | idle | starting | running | stopping | faulted
  deriving DecidableEq, Repr

/-- Why a stage is FAULTED (R117). -/
inductive Cause where
  | noProof | trip | silent
  deriving DecidableEq, Repr

/-- A fan stage (R117). `proof` runs in STARTING only and `rundown` in STOPPING only; each is 0 otherwise. -/
structure Stage where
  node : NodeId
  status : StageStatus
  cause : Option Cause
  proof : Nat
  rundown : Nat
  deriving DecidableEq, Repr

/-- The state of a zone's sequencer (R120). -/
inductive SeqState where
  | idle | stepUp | stepDown | dwell
  deriving DecidableEq, Repr

/-- The direction of a sequence (R120). -/
inductive Direction where
  | up | down
  deriving DecidableEq, Repr

/-- The sequence in progress (R120). -/
structure Sequence where
  dir : Direction
  origin : Nat
  goal : Nat
  steps : Nat
  deriving DecidableEq, Repr

/-- How a sequence ended (R120). -/
inductive SeqOutcome where
  | none | done | short | cut
  deriving DecidableEq, Repr

/-- The last-sequence record (R120). -/
structure LastSequence where
  origin : Nat
  goal : Nat
  steps : Nat
  outcome : SeqOutcome
  deriving DecidableEq, Repr

/-- A zone record (R27). The figures of the fume and demand parts carry the spec's letters. -/
structure Zone where
  /-- use state: IN_USE or FREE (R28) -/
  inUse : Bool
  cfg : ZoneParams
  hostShed : Bool
  hostFloor : Nat
  tallies : Tallies
  slots : List Slot
  I : Nat
  S : Nat
  band : Band
  blind : Bool
  L : Nat
  T : Nat
  P : Nat
  D : Nat
  computed : Nat
  bandFloor : Nat
  blindFloor : Nat
  hostFloorClamped : Nat
  target : Nat
  stages : List Stage
  seq : SeqState
  dwell : Nat
  sequence : Option Sequence
  shortHold : Bool
  last : LastSequence
  pending : EventSet
  deriving DecidableEq, Repr

/-- Every zone record at power-on (R37, R129, R178). -/
def Zone.powerOn : Zone :=
  { inUse := false, cfg := defaultParams, hostShed := false, hostFloor := 0, tallies := .zero, slots := [], I := 0, S := 0,
    band := .clear, blind := false, L := 0, T := 0, P := 0, D := 0, computed := 0, bandFloor := 0, blindFloor := 0,
    hostFloorClamped := 0, target := 0, stages := [], seq := .idle, dwell := 0, sequence := none, shortHold := false,
    last := ⟨0, 0, 0, .none⟩, pending := 0#16 }

/-! ## Site record (R40) -/

/-- The site record at power-on: the defaults of R40. -/
def defaultSite : SiteParams :=
  { settleTicks := 300, departTicks := 200, holdTicks := 1800, raisedPenalty := 60, holdWeight := 4, base := 3, guide := 15,
    active := 15, parked := 6, aisleIdle := 4, aisleActive := 15, aisleTicks := 600, mask := siteKinds }

/-! ## Row edit (R44) -/

/-- An entry of the row edit buffer: a layout part (R44). -/
structure Entry where
  zone : Nat
  cls : BayClass
  closed : Bool
  deriving DecidableEq, Repr

/-- An open row edit (R44). `cursor` is `Config.cursorEnd` at END. -/
structure Edit where
  row : Nat
  entries : List Entry
  cursor : Nat
  window : Nat
  deriving DecidableEq, Repr

/-! ## Node table (R65), with the answer records (R132) and the light sets (R160) -/

/-- The answer record of an ENTRY node (R132). -/
inductive Answer where
  | ready
  | offer (ticket bay zone : Nat)
  | full (ticket : Nat)
  deriving DecidableEq, Repr

/-- The light set of a ROW node (R160). `timer` is `none` while the aisle timer is stopped. -/
structure LightSet where
  bays : List (Nat × Bool)
  aisle : Nat
  timer : Option Nat
  deriving DecidableEq, Repr

/-- The kinds of node (R65). -/
inductive NodeKind where
  | row | gas | fan | sign | entry
  deriving DecidableEq, Repr

/-- What a node serves: its kind and binding (R65). A ROW node's light set and an ENTRY node's answer record exist exactly
while the node is bound (R132, R160), so they stand here. -/
inductive Service where
  | none
  | row (row bayCount : Nat) (lights : LightSet)
  | gas
  | fan
  | sign
  | entry (entrance : Nat) (answer : Answer)
  deriving DecidableEq, Repr

/-- The state of a node record (R66). -/
inductive NodeState where
  | off | live | silent | barred
  deriving DecidableEq, Repr

/-- The expected toggle of a node (R65). -/
inductive Expected where
  | zero | one | any
  deriving DecidableEq, Repr

/-- The marker of a node (R65). -/
inductive Marker where
  | none | barred | busy
  deriving DecidableEq, Repr

/-- A node record (R65). -/
structure Node where
  service : Service
  state : NodeState
  misses : Nat
  toggle : Expected
  marker : Marker
  outputPending : Bool
  deriving DecidableEq, Repr

/-- Every node record at power-on and after NODE_RETIRE (R65, R55). -/
def Node.powerOn : Node :=
  { service := .none, state := .off, misses := 0, toggle := .any, marker := .none, outputPending := false }

/-! ## Lines (R63) -/

/-- The state of a line (R63). -/
inductive LineState where
  | idle | scanning | fault
  deriving DecidableEq, Repr

/-- A visit in flight (R63): the address visited, whether its frame is a command, and the frame (R187). `retired` says that
the record it began for has been retired since: its reply is not applied, whatever the record is now (R55, R75). -/
structure Visit where
  address : Nat
  command : Bool
  frame : List Char9
  retired : Bool
  deriving DecidableEq, Repr

/-- A line record (R63), with the pins DE and, as far as R81 reads it, RXD. `probe` is `none` while the probe timer is
stopped; `watch` says that a probe watch is in progress (R83). -/
structure Line where
  state : LineState
  scan : Nat
  visit : Option Visit
  de : Bool
  breakMeasure : Nat
  rxBreak : Bool
  probe : Option Nat
  watch : Bool
  deriving DecidableEq, Repr

/-- Every line record at power-on (R63). The level of the receive input is the outside's: log entry 7. -/
def Line.powerOn : Line :=
  { state := .idle, scan := 0, visit := none, de := false, breakMeasure := 0, rxBreak := false, probe := none, watch := false }

/-! ## Signs (R149) -/

/-- The mode of a sign (R149). -/
inductive SignMode where
  | off | count | text
  deriving DecidableEq, Repr

/-- The class filter of a sign (R149). -/
inductive ClassFilter where
  | all | standard | compact | accessible | charging
  deriving DecidableEq, Repr

/-- A sign record (R149). -/
structure Sign where
  node : Option NodeId
  mode : SignMode
  zones : ZoneSet
  filter : ClassFilter
  text : List Byte
  value : Nat
  deriving DecidableEq, Repr

/-- Every sign record at power-on (R159). -/
def Sign.powerOn : Sign :=
  { node := none, mode := .off, zones := 0#32, filter := .all, text := [], value := 0 }

/-! ## Host link (R181, R182) -/

/-- The reasons of a response (R181). -/
inductive Reason where
  | done | busy | range | state | conflict | noBay | frame | unknown
  deriving DecidableEq, Repr

/-- The response held in the buffer (R181, R182). Its status is DONE exactly when its reason is DONE. -/
structure Response where
  code : Nat
  reason : Reason
  payload : List Byte
  overrun : Bool
  deriving DecidableEq, Repr

/-- Where the part stands between RESET and service (R185). -/
inductive Phase where
  /-- RESET is held asserted -/
  | held
  /-- released, the start-up time not yet passed: host transactions are ignored -/
  | startUp
  /-- running -/
  | running
  deriving DecidableEq, Repr

/-- The output pins RDY, ATTN, PURGE and FAULT (R192), and whether the part drives its data output MISO: it does so during a
transaction only, and releases it while chip select is high (R179, R185). -/
structure Outputs where
  rdy : Bool
  attn : Bool
  purge : Bool
  fault : Bool
  misoDriven : Bool
  deriving DecidableEq, Repr

/-- A table of numbered records: the records that differ from their power-on value, in rising order of number. A number
that is not listed reads as the power-on record (log entry 6). -/
abbrev Table (α : Type) := List (Nat × α)

/-- The state of the part. -/
structure State where
  /-- RESET and start-up (R185) -/
  phase : Phase
  /-- the tick count since the release of RESET (R185) -/
  ticks : Nat
  /-- the bay table, by bay number (R1) -/
  bays : Table Bay
  /-- the zone records, by zone number (R27) -/
  zones : Table Zone
  /-- the route table, entrance e and zone z at 32 e + z (R38) -/
  routes : Table Nat
  /-- the site record (R40) -/
  site : SiteParams
  /-- the SITE pending set (R171) -/
  sitePending : EventSet
  /-- the row edit; `none` while it is closed (R44) -/
  edit : Option Edit
  /-- the line records, by line number (R63) -/
  lines : Table Line
  /-- the node table, line l and address a at 64 l + a (R65) -/
  nodes : Table Node
  /-- the sign records, by sign number (R149) -/
  signs : Table Sign
  /-- the response buffer (R182) -/
  buffer : Option Response
  /-- a host transaction begun before the start-up time had passed is still in progress: it is ignored (R185; log entry 3) -/
  ignoring : Bool
  /-- the output pins (R192) -/
  out : Outputs
  /-- MODEL's own: the bytes driven on the data output in the host transaction that was taken last (R179, R183; log entry 18) -/
  miso : List Byte
  /-- MODEL's own: how many free choices have been made (log entry 19) -/
  choices : Nat
  /-- MODEL's own: the commands that wait, first in first out (log entry 1) -/
  pending : List Instr
  deriving DecidableEq, Repr

/-- The machine after the supply comes up: every record at its power-on value and the start-up time running (R185, R25,
R37, R39, R43, R62, R63, R65, R148, R159, R178, R182; log entry 2). -/
def State.reset : State :=
  { phase := .startUp, ticks := 0, bays := [], zones := [], routes := [], site := defaultSite, sitePending := 0#16,
    edit := none, lines := [], nodes := [], signs := [], buffer := none, ignoring := false,
    out := { rdy := false, attn := false, purge := true, fault := false, misoDriven := false }, miso := [], choices := 0,
    pending := [] }

/-- Why the machine stops with a fault: never. The spec names no behaviour of the part that stops it, and no command of the
model faults, so this type has no constructor; nothing raises it, which is safe. -/
inductive Fault : Type
  deriving DecidableEq, Repr

/-- Why a command is refused by the model. -/
inductive Refusal where
  /-- Raised by `exec` for a command whose meaning is not written yet; no arm raises it now. Safe. -/
  | notModelled (mnemonic : String)
  deriving DecidableEq, Repr

end Sys2Proof.Machine
end

