-- ==== Sys2Proof/Machine/Table.lean ====
section
/-! DEFINITION. Reading and writing numbered records. A table lists only the records that differ from their power-on value,
in rising order of number (log entry 6); these operations keep that form. -/

namespace Sys2Proof.Machine

/-- The record of number `k`; a number that is not listed reads as `d`. -/
def Table.get {α : Type} (d : α) : Table α → Nat → α
  | [], _ => d
  | (j, a) :: t, k => if j = k then a else Table.get d t k

/-- The table without the record of number `k`. -/
def Table.erase {α : Type} (t : Table α) (k : Nat) : Table α :=
  t.filter fun e => decide (e.1 ≠ k)

/-- The table with a record listed at number `k`, which it does not list yet. -/
def Table.insert {α : Type} (k : Nat) (a : α) : Table α → Table α
  | [] => [(k, a)]
  | (j, b) :: t => if k < j then (k, a) :: (j, b) :: t else (j, b) :: Table.insert k a t

/-- The table with record `a` at number `k`. A record equal to `d` is not listed. -/
def Table.set {α : Type} [DecidableEq α] (d : α) (t : Table α) (k : Nat) (a : α) : Table α :=
  if a = d then Table.erase t k else Table.insert k a (Table.erase t k)

/-- Every listed record changed by `f`; one that becomes equal to `d` is no longer listed. -/
def Table.map {α : Type} [DecidableEq α] (d : α) (f : α → α) (t : Table α) : Table α :=
  (List.map (fun e => (e.1, f e.2)) t).filter fun e => decide (e.2 ≠ d)

/-- The numbers listed. -/
def Table.keys {α : Type} (t : Table α) : List Nat :=
  List.map (·.1) t

/-- The canonical form: numbers strictly rising and below `bound`, no record equal to `d`. -/
def Table.wf {α : Type} [DecidableEq α] (d : α) (bound : Nat) : Table α → Bool
  | [] => true
  | [(k, a)] => decide (k < bound) && decide (a ≠ d)
  | (k, a) :: (j, b) :: t => decide (k < j) && decide (a ≠ d) && Table.wf d bound ((j, b) :: t)

/-! ## The tables of the state -/

/-- The number of line `l`, address `a` in the node table (R65). -/
def NodeId.key (id : NodeId) : Nat := 64 * id.line + id.address

/-- The line and address of a number in the node table. -/
def nodeIdOf (k : Nat) : NodeId := ⟨k / 64, k % 64⟩

/-- Bay record `b` (R1). -/
def State.bay (s : State) (b : Nat) : Bay := Table.get Bay.powerOn s.bays b
/-- The state with bay record `b` written. -/
def State.setBay (s : State) (b : Nat) (x : Bay) : State := { s with bays := Table.set Bay.powerOn s.bays b x }

/-- Zone record `z` (R27). -/
def State.zone (s : State) (z : Nat) : Zone := Table.get Zone.powerOn s.zones z
/-- The state with zone record `z` written. -/
def State.setZone (s : State) (z : Nat) (x : Zone) : State := { s with zones := Table.set Zone.powerOn s.zones z x }

/-- The route cost from entrance `e` to zone `z` (R38). -/
def State.route (s : State) (e z : Nat) : Nat := Table.get Config.unreachable s.routes (32 * e + z)
/-- The state with the route cost from `e` to `z` written. -/
def State.setRoute (s : State) (e z c : Nat) : State :=
  { s with routes := Table.set Config.unreachable s.routes (32 * e + z) c }

/-- Line record `l` (R63). -/
def State.line (s : State) (l : Nat) : Line := Table.get Line.powerOn s.lines l
/-- The state with line record `l` written. -/
def State.setLine (s : State) (l : Nat) (x : Line) : State := { s with lines := Table.set Line.powerOn s.lines l x }

/-- Node record `id` (R65). -/
def State.node (s : State) (id : NodeId) : Node := Table.get Node.powerOn s.nodes id.key
/-- The state with node record `id` written. -/
def State.setNode (s : State) (id : NodeId) (x : Node) : State :=
  { s with nodes := Table.set Node.powerOn s.nodes id.key x }

/-- Sign record `i` (R149). -/
def State.sign (s : State) (i : Nat) : Sign := Table.get Sign.powerOn s.signs i
/-- The state with sign record `i` written. -/
def State.setSign (s : State) (i : Nat) (x : Sign) : State := { s with signs := Table.set Sign.powerOn s.signs i x }

/-- The canonical form of every table of the state. -/
def State.tablesWf (s : State) : Bool :=
  Table.wf Bay.powerOn Config.bayCount s.bays && Table.wf Zone.powerOn Config.zoneCount s.zones
    && Table.wf Config.unreachable (32 * Config.entranceCount) s.routes
    && Table.wf Line.powerOn Config.lineCount s.lines && Table.wf Node.powerOn (64 * Config.lineCount) s.nodes
    && Table.wf Sign.powerOn Config.signCount s.signs

end Sys2Proof.Machine
end

