-- ==== Sys2Proof/Machine/Flags.lean ====
section
/-! DEFINITION. Flags: raising an event into a pending set (R172), and the four output pins as they follow from the records
(R127, R128, R176, R182). -/

namespace Sys2Proof.Machine

/-! ## Pending sets -/

/-- The bit of a kind in an event mask (R190). -/
def EventKind.bit : EventKind → Nat
  | .bandUp => 0
  | .bandDown => 1
  | .full => 2
  | .opened => 3
  | .blind => 4
  | .sighted => 5
  | .fanFault => 6
  | .stageShort => 7
  | .holdLapsed => 8
  | .nodeSilent => 9
  | .nodeBack => 10
  | .lineFault => 11
  | .lineBack => 12
  | .signSilent => 13
  | .entrySilent => 14
  | .editExpired => 15

/-- Whether a kind is a member of a set. -/
def EventKind.isIn (k : EventKind) (e : EventSet) : Bool := e.getLsbD k.bit

/-- A set with a kind added. -/
def EventKind.addTo (k : EventKind) (e : EventSet) : EventSet := e ||| (1#16 <<< k.bit)

/-- A pending set after event `k` is raised in it under enable mask `mask` (R172). -/
def raised (mask : EventSet) (k : EventKind) (members : EventSet) : EventSet :=
  if k.isIn mask then k.addTo members else members

/-- A zone record after event `k` is raised in its set (R172). -/
def Zone.raise (z : Zone) (k : EventKind) : Zone := { z with pending := raised z.cfg.mask k z.pending }

/-- A zone record after event `k` is raised in its set if `b` holds. -/
def Zone.raiseIf (z : Zone) (b : Bool) (k : EventKind) : Zone := if b then z.raise k else z

/-- The state after event `k` is raised in zone `z` (R172). -/
def State.raiseZone (s : State) (k : EventKind) (z : Nat) : State := s.setZone z ((s.zone z).raise k)

/-- The state after event `k` is raised in SITE (R172). -/
def State.raiseSite (s : State) (k : EventKind) : State :=
  { s with sitePending := raised s.site.mask k s.sitePending }

/-! ## Conditions of a zone -/

/-- The bands in which a zone is shed (R32). -/
def Band.sheds : Band → Bool
  | .clear => false
  | .raised => false
  | .high => true
  | .purge => true

/-- The shed condition (R32). -/
def Zone.shed (z : Zone) : Bool := z.inUse && (z.hostShed || z.band.sheds)

/-! ## Output pins -/

/-- The zone numbers. -/
def zoneNumbers : List Nat := List.range Config.zoneCount

/-- PURGE is asserted exactly when some IN_USE zone has band PURGE or no zone is IN_USE (R127). -/
def State.purgeLevel (s : State) : Bool :=
  (zoneNumbers.any fun z => (s.zone z).inUse && decide ((s.zone z).band = .purge))
    || !(zoneNumbers.any fun z => (s.zone z).inUse)

/-- FAULT is asserted exactly when some stage of some zone is FAULTED or some line is in FAULT (R128). -/
def State.faultLevel (s : State) : Bool :=
  (zoneNumbers.any fun z => (s.zone z).stages.any fun g => decide (g.status = .faulted))
    || ((List.range Config.lineCount).any fun l => decide ((s.line l).state = .fault))

/-- ATTN is asserted exactly when at least one of the 33 pending sets is non-empty (R176). -/
def State.attnLevel (s : State) : Bool :=
  (zoneNumbers.any fun z => decide ((s.zone z).pending ≠ 0#16)) || decide (s.sitePending ≠ 0#16)

/-- RDY is asserted exactly while the buffer holds a response (R182). -/
def State.rdyLevel (s : State) : Bool := s.buffer.isSome

/-- The state with its output pins re-evaluated. Every command ends with no transaction in progress that the part serves, so
the data output is released (R179, R185). -/
def State.withOutputs (s : State) : State :=
  { s with out := { rdy := s.rdyLevel, attn := s.attnLevel, purge := s.purgeLevel, fault := s.faultLevel,
                    misoDriven := false } }

end Sys2Proof.Machine
end

