-- ==== Sys2Proof/Machine/FanSequencer.lean ====
section
/-! DEFINITION. The ventilation unit's part of one zone record: the demand figures and the target (R109 to R114), the fan
stages (R117 to R119) and the stage sequencer (R120 to R124). Everything here reads and writes one zone record only. -/

namespace Sys2Proof.Machine

/-! ## Figures (R109 to R114) -/

/-- A quotient taken by ceiling. -/
def ceilDiv (a b : Nat) : Nat := (a + b - 1) / b

/-- N, the number of stages (R109). -/
def Zone.N (z : Zone) : Nat := z.stages.length

/-- c, the number of RUNNING stages (R109). -/
def Zone.c (z : Zone) : Nat := z.stages.countP fun g => decide (g.status = .running)

/-- L (R110). -/
def Zone.loadOf (z : Zone) : Nat := z.tallies.arriving + z.tallies.leaving + z.tallies.holds

/-- T (R110). -/
def Zone.loadTerm (z : Zone) : Nat := min 1000 (z.loadOf * z.cfg.loadWeight)

/-- P (R111). -/
def Zone.fumeTerm (z : Zone) : Nat :=
  if z.S ≤ z.cfg.lo then 0
  else if z.cfg.hi ≤ z.S then 1000
  else (z.S - z.cfg.lo) * 1000 / (z.cfg.hi - z.cfg.lo)

/-- D (R111). -/
def Zone.demandOf (z : Zone) : Nat := min 1000 (z.fumeTerm + z.loadTerm)

/-- The computed target from demand `d`, number of stages `n`, margin `h` and running stages `c` (R113). -/
def computedTarget (d n h c : Nat) : Nat :=
  let r := ceilDiv (d * n) 1000
  let r' := min n (ceilDiv ((d + h) * n) 1000)
  if n = 0 then 0 else if c < r then r else if r' < c then r' else c

/-- The band floor before clamping (R114). -/
def bandFloorOf (b : Band) (n : Nat) : Nat :=
  match b with
  | .clear => 0
  | .raised => 1
  | .high => max 1 (n - 1)
  | .purge => n

/-- The zone with every demand figure recomputed from its inputs, as one change (R112). -/
def Zone.figures (z : Zone) : Zone :=
  let computed := computedTarget z.demandOf z.N z.cfg.demandH z.c
  let bandFloor := min (bandFloorOf z.band z.N) z.N
  let blindFloor := min (if z.blind then z.cfg.blindStage else 0) z.N
  let hostFloor := min z.hostFloor z.N
  { z with L := z.loadOf, T := z.loadTerm, P := z.fumeTerm, D := z.demandOf, computed := computed, bandFloor := bandFloor,
           blindFloor := blindFloor, hostFloorClamped := hostFloor,
           target := max computed (max bandFloor (max blindFloor hostFloor)) }

/-! ## Stages (R117) -/

/-- The place of the first item that meets `p`. -/
def firstPlace {α : Type} (p : α → Bool) : List α → Option Nat
  | [] => none
  | x :: xs =>
    if p x then some 0
    else match firstPlace p xs with
      | some i => some (i + 1)
      | none => none

/-- The place of the last item that meets `p`. -/
def lastPlace {α : Type} (p : α → Bool) : List α → Option Nat
  | [] => none
  | x :: xs =>
    match lastPlace p xs with
    | some i => some (i + 1)
    | none => if p x then some 0 else none

/-- A list with the item at place `i` changed by `f`. -/
def changeAt {α : Type} (f : α → α) : List α → Nat → List α
  | [], _ => []
  | x :: xs, 0 => f x :: xs
  | x :: xs, i + 1 => x :: changeAt f xs i

/-- A list without the item at place `i`. -/
def removeAt {α : Type} : List α → Nat → List α
  | [], _ => []
  | _ :: xs, 0 => xs
  | x :: xs, i + 1 => x :: removeAt xs i

/-- Whether a status drives its node to RUN (R117). -/
def StageStatus.runs : StageStatus → Bool
  | .starting => true
  | .running => true
  | .idle => false
  | .stopping => false
  | .faulted => false

/-- Whether the stage of this zone that names node `id` drives it to RUN (R117). -/
def Zone.fanRuns (z : Zone) (id : NodeId) : Bool := z.stages.any fun g => decide (g.node = id) && g.status.runs

/-- The status of the stage at place `i`; IDLE where there is none. -/
def Zone.statusAt (z : Zone) (i : Nat) : StageStatus :=
  match z.stages[i]? with
  | some g => g.status
  | none => .idle

/-- A stage gone STARTING with its proof timer set (R121). -/
def Stage.start (ticks : Nat) (g : Stage) : Stage := { g with status := .starting, cause := none, proof := ticks, rundown := 0 }
/-- A stage gone RUNNING (R121). -/
def Stage.run (g : Stage) : Stage := { g with status := .running, cause := none, proof := 0, rundown := 0 }
/-- A stage gone STOPPING with its rundown timer set (R123). -/
def Stage.stop (ticks : Nat) (g : Stage) : Stage := { g with status := .stopping, cause := none, proof := 0, rundown := ticks }
/-- A stage gone IDLE (R123, R126). -/
def Stage.rest (g : Stage) : Stage := { g with status := .idle, cause := none, proof := 0, rundown := 0 }
/-- A stage gone FAULTED with its cause (R117, R118). -/
def Stage.fail (c : Cause) (g : Stage) : Stage := { g with status := .faulted, cause := some c, proof := 0, rundown := 0 }

/-- The zone with the stage at place `i` changed. -/
def Zone.changeStage (z : Zone) (i : Nat) (f : Stage → Stage) : Zone := { z with stages := changeAt f z.stages i }

/-! ## Sequencer (R120 to R124) -/

/-- The step count after one more step (R121, R123). Past 4 the spec states no value it could hold: log entry 9. -/
def nextStepCount (n : Nat) : Nat := if n < 4 then n + 1 else min 4 (Config.stepsPastFour n)

/-- The zone with one more step counted in the sequence in progress (R121, R123). -/
def Zone.countStep (z : Zone) : Zone :=
  match z.sequence with
  | some q => { z with sequence := some { q with steps := nextStepCount q.steps } }
  | none => z

/-- The sequence in progress ends with an outcome and is written to the last-sequence record (R120). -/
def Zone.endSequence (z : Zone) (o : SeqOutcome) : Zone :=
  match z.sequence with
  | some q => { z with sequence := none, last := ⟨q.origin, q.goal, q.steps, o⟩ }
  | none => z

/-- The sequence ends SHORT: STAGE_SHORT is raised, the short hold is set and the sequencer goes to IDLE (R122). -/
def Zone.endShort (z : Zone) : Zone :=
  { (z.endSequence .short).raise .stageShort with shortHold := true, seq := .idle }

/-- A step up: the lowest-numbered IDLE stage goes STARTING (R121). With no IDLE stage the sequence ends SHORT. -/
def Zone.stepUp (z : Zone) : Zone :=
  match firstPlace (fun g => decide (g.status = .idle)) z.stages with
  | some i => { z.changeStage i (Stage.start z.cfg.proofTicks) with seq := .stepUp }
  | none => z.endShort

/-- A step down: the highest-numbered RUNNING stage goes STOPPING, c falls, and the target is recomputed with the new c
(R123). -/
def Zone.stepDown (z : Zone) : Zone :=
  match lastPlace (fun g => decide (g.status = .running)) z.stages with
  | some i => Zone.figures { z.changeStage i (Stage.stop z.cfg.rundownTicks) with seq := .stepDown }
  | none => z

/-- A step in the given direction. -/
def Zone.step (z : Zone) : Direction → Zone
  | .up => z.stepUp
  | .down => z.stepDown

/-- A sequence begins from the present c toward the present target, and its first step starts (R120). -/
def Zone.beginSequence (z : Zone) : Zone :=
  let dir : Direction := if z.c < z.target then .up else .down
  Zone.step { z with sequence := some ⟨dir, z.c, z.target, 0⟩ } dir

/-- Whether the target lies on the side of a direction (R120). -/
def Zone.onSide (z : Zone) : Direction → Bool
  | .up => decide (z.c < z.target)
  | .down => decide (z.target < z.c)

/-- The re-evaluation of an IDLE sequencer (R120). -/
def Zone.reEvaluate (z : Zone) : Zone :=
  match z.sequence with
  | none => if z.target = z.c ∨ z.shortHold = true then z else z.beginSequence
  | some q =>
    if z.target = z.c then z.endSequence .done
    else if z.onSide q.dir then Zone.step { z with sequence := some { q with goal := z.target } } q.dir
    else (z.endSequence .cut).beginSequence

/-- The sequencer enters IDLE and re-evaluates (R120, R124). -/
def Zone.enterIdle (z : Zone) : Zone := Zone.reEvaluate { z with seq := .idle, dwell := 0 }

/-- The sequencer goes to DWELL; under PURGE the timer is set to 0, and a timer set to 0 expires in the same change
(R121, R123, R124). -/
def Zone.enterDwell (z : Zone) (ticks : Nat) : Zone :=
  if z.band = .purge ∨ ticks = 0 then z.enterIdle else { z with seq := .dwell, dwell := ticks }

/-- An IDLE sequencer is told of a change of the target, of c, of a stage's status or of the stage list: the short hold is
cleared and it re-evaluates (R120). In any other state nothing starts. -/
def Zone.tellSequencer (z : Zone) : Zone :=
  if z.seq = .idle then Zone.reEvaluate { z with shortHold := false } else z

/-- A change of the demand part's inputs (R112): the figures are recomputed as one change, and the sequencer is told when
the target ends on a value other than it began. `entersPurge` says that the change took the band into PURGE, which ends a
dwell (R124). -/
def Zone.demandChange (z : Zone) (entersPurge : Bool) : Zone :=
  let z' := z.figures
  if z'.seq = .dwell ∧ entersPurge = true then z'.enterIdle
  else if z'.target = z.target then z'
  else z'.tellSequencer

/-- What follows when a STARTING stage has gone FAULTED (R122). -/
def Zone.stepUpFailed (z : Zone) : Zone :=
  if z.c < z.target then
    match firstPlace (fun g => decide (g.status = .idle)) z.stages with
    | some i => z.changeStage i (Stage.start z.cfg.proofTicks)
    | none => z.endShort
  else z.enterIdle

/-- The step down has ended: the step is counted and the dwell follows (R123). -/
def Zone.stepDownEnded (z : Zone) : Zone := z.countStep.enterDwell z.cfg.dwellDown

/-- The stage at place `i` goes FAULTED with a cause, FAN_FAULT is raised, and what R118, R119 and R122 lay down for the
status it had follows. -/
def Zone.faultStage (z : Zone) (i : Nat) (c : Cause) : Zone :=
  let z' := (z.changeStage i (Stage.fail c)).raise .fanFault
  match z.statusAt i with
  | .idle => z'.tellSequencer
  | .starting => z'.stepUpFailed
  | .running => z'.figures.tellSequencer
  | .stopping => z'.stepDownEnded
  | .faulted => z

/-- TRIP reaches the stage at place `i` (R118). -/
def Zone.tripStage (z : Zone) (i : Nat) : Zone := z.faultStage i .trip

/-- PROOF reaches the stage at place `i` (R118, R121). -/
def Zone.proveStage (z : Zone) (i : Nat) : Zone :=
  match z.statusAt i with
  | .starting => (Zone.figures (z.changeStage i Stage.run)).countStep.enterDwell z.cfg.dwellUp
  | .idle => z
  | .running => z
  | .stopping => z
  | .faulted => z

/-- Silence of its node reaches the stage at place `i` (R119). -/
def Zone.silenceStage (z : Zone) (i : Nat) : Zone :=
  match z.statusAt i with
  | .starting => z.faultStage i .silent
  | .running => z.faultStage i .silent
  | .idle => z
  | .stopping => z
  | .faulted => z

/-- The place of the stage of this zone that names node `id`. -/
def Zone.stagePlace (z : Zone) (id : NodeId) : Option Nat := firstPlace (fun g => decide (g.node = id)) z.stages

end Sys2Proof.Machine
end

