-- ==== Sys2Proof/Machine/FumeIndex.lean ====
section
/-! DEFINITION. The fume unit's part of one zone record: samples (R92, R93), freshness (R94, R95), blindness (R96), the
indices I and S (R98, R99) and the band procedure (R101, R102). Everything here reads and writes one zone record only. -/

namespace Sys2Proof.Machine

/-- n from a reading and the slot's ref: floor of reading * 1000 / ref, at most 4095 (R93). -/
def normalise (reading ref : Nat) : Nat := min 4095 (reading * 1000 / ref)

/-- The slot after a stale cause: stale, its age timer stopped at 0, its n kept (R94, R95). -/
def Slot.goStale (g : Slot) : Slot := { g with fresh := false, age := 0 }

/-- The reading of a slot's channel in a gas report, when that channel is valid (R85, R92). -/
def Slot.readingIn (g : Slot) (reading0 : Nat) (valid0 : Bool) (reading1 : Nat) (valid1 : Bool) : Option Nat :=
  if g.channel = 0 then (if valid0 then some reading0 else none) else (if valid1 then some reading1 else none)

/-- The condition of R96. -/
def blindCondition (slots : List Slot) : Bool := !slots.isEmpty && !slots.any (·.fresh)

/-- The blind condition re-evaluated (R96): BLIND when the zone becomes blind, SIGHTED when it leaves blind with a fresh
slot, nothing when its last slot is gone. -/
def Zone.reviewBlind (z : Zone) : Zone :=
  let b := blindCondition z.slots
  (({ z with blind := b }).raiseIf (b && !z.blind) .blind).raiseIf (!b && z.blind && !z.slots.isEmpty) .sighted

/-- I: the largest n among the fresh slots, 0 when there is none (R98). -/
def indexOf (slots : List Slot) : Nat := slots.foldl (fun m g => if g.fresh then max m g.n else m) 0

/-- The zone with I recomputed (R98). -/
def Zone.reviewI (z : Zone) : Zone := { z with I := indexOf z.slots }

/-- S moved toward I (R99). -/
def smoothed (i s kRise kFall : Nat) : Nat :=
  if s < i then s + ceilDiv (i - s) (2 ^ kRise) else if i < s then s - ceilDiv (s - i) (2 ^ kFall) else s

/-- The order of the bands (section 5.6). -/
def Band.rank : Band → Nat
  | .clear => 0
  | .raised => 1
  | .high => 2
  | .purge => 3

/-- The band next above; PURGE has none. -/
def Band.above : Band → Option Band
  | .clear => some .raised
  | .raised => some .high
  | .high => some .purge
  | .purge => none

/-- The band next below; CLEAR has none. -/
def Band.below : Band → Option Band
  | .clear => none
  | .raised => some .clear
  | .high => some .raised
  | .purge => some .high

/-- The on-threshold of a band (section 5.6); CLEAR has none and stands as 0. -/
def onThreshold (c : ZoneParams) : Band → Nat
  | .clear => 0
  | .raised => c.raisedOn
  | .high => c.highOn
  | .purge => c.purgeOn

/-- The rise of the band procedure, at most `fuel` steps (R101). -/
def riseBand (c : ZoneParams) (s : Nat) : Nat → Band → Band
  | 0, b => b
  | fuel + 1, b =>
    match b.above with
    | some b' => if onThreshold c b' ≤ s then riseBand c s fuel b' else b
    | none => b

/-- The fall of the band procedure, at most `fuel` steps (R101). -/
def fallBand (c : ZoneParams) (s : Nat) : Nat → Band → Band
  | 0, b => b
  | fuel + 1, b =>
    match b.below with
    | some b' => if s < onThreshold c b - c.bandH then fallBand c s fuel b' else b
    | none => b

/-- The band the band procedure ends with (R101). There are three steps between CLEAR and PURGE. -/
def bandAfter (c : ZoneParams) (s : Nat) (b : Band) : Band :=
  let up := riseBand c s 3 b
  if up = b then fallBand c s 3 b else up

/-- The band procedure against the zone's S, with its event (R101, R102). -/
def Zone.bandProcedure (z : Zone) : Zone :=
  let b := bandAfter z.cfg z.S z.band
  (({ z with band := b }).raiseIf (decide (z.band.rank < b.rank)) .bandUp).raiseIf (decide (b.rank < z.band.rank)) .bandDown

/-- A slot that takes its sample from a report of node `id`, if it does (R92, R93). -/
def Slot.sample (stale : Nat) (id : NodeId) (r0 : Nat) (v0 : Bool) (r1 : Nat) (v1 : Bool) (g : Slot) : Slot :=
  if g.node = id then
    match g.readingIn r0 v0 r1 v1 with
    | some reading => { g with n := normalise reading g.ref, fresh := true, age := stale }
    | none => g
  else g

/-- Whether a slot takes a sample from a report of node `id` (R92). -/
def Slot.takes (id : NodeId) (r0 : Nat) (v0 : Bool) (r1 : Nat) (v1 : Bool) (g : Slot) : Bool :=
  decide (g.node = id) && (g.readingIn r0 v0 r1 v1).isSome

/-- The update of one zone by a gas report: steps 1 to 5 in their order (R92). Step 6 is `Zone.handOn` and
`State.changeZone`. -/
def Zone.gasUpdate (z : Zone) (id : NodeId) (r0 : Nat) (v0 : Bool) (r1 : Nat) (v1 : Bool) : Zone :=
  let z1 : Zone := { z with slots := z.slots.map (Slot.sample z.cfg.staleTicks id r0 v0 r1 v1) }
  let z2 := z1.reviewBlind.reviewI
  Zone.bandProcedure { z2 with S := smoothed z2.I z2.S z2.cfg.kRise z2.cfg.kFall }

/-- The fume part `z'` handed to the ventilation unit after a change from `z`: S, the blind condition or the band moved
(R103, R105). -/
def Zone.handOn (z z' : Zone) : Zone :=
  if z'.S = z.S ∧ z'.blind = z.blind ∧ z'.band = z.band then z'
  else z'.demandChange (decide (z'.band = .purge ∧ z.band ≠ .purge))

/-- A change of the slot list that is no sample: the blind condition and I are re-evaluated once, S and the band stay (R94,
R95, R58, R59), and a change of the blind condition is handed on (R105). -/
def Zone.withSlots (z : Zone) (slots : List Slot) : Zone :=
  z.handOn ({ z with slots := slots }).reviewBlind.reviewI

/-- The zone after every slot that names node `id` goes stale (R95). -/
def Zone.staleNode (z : Zone) (id : NodeId) : Zone :=
  z.withSlots (z.slots.map fun g => if g.node = id then g.goStale else g)

end Sys2Proof.Machine
end

