-- ==== Sys2Proof/Decode.lean ====
section
/-! DEFINITION. The frames of the host link read and written: what a request transaction's bytes name (R180, R186, R190),
the bytes of each request, CRC-16, and the two words the host asks the model with. The opcode table gives no row any bits, so
no word spells a command. -/

namespace Sys2Proof

/-! ## Bytes, high byte first (11_the_host_link.md, section 11.5) -/

/-- A number as one byte. -/
def u8 (n : Nat) : Byte := BitVec.ofNat 8 n

/-- A number as two bytes, high byte first. -/
def u16 (n : Nat) : List Byte := [u8 (n / 256), u8 n]

/-- A set of event kinds as two bytes (R190). -/
def maskBytes (m : EventSet) : List Byte := u16 m.toNat

/-- A set of zones as four bytes (R190). -/
def zoneSetBytes (z : ZoneSet) : List Byte :=
  [u8 (z.toNat / 16777216), u8 (z.toNat / 65536), u8 (z.toNat / 256), u8 z.toNat]

/-- Byte `i` of a parameter list as a number; 0 past its end. -/
def byteAt (p : List Byte) (i : Nat) : Nat := (p.getD i 0#8).toNat

/-- The two bytes at `i` as a number, high byte first. -/
def wordAt (p : List Byte) (i : Nat) : Nat := 256 * byteAt p i + byteAt p (i + 1)

/-! ## CRC-16 (R186) -/

/-- Eight shifts of the CRC-16 register: generator x^16 + x^12 + x^5 + 1. -/
def crc16Shift : Nat → BitVec 16 → BitVec 16
  | 0, c => c
  | n + 1, c => crc16Shift n (if c.msb then (c <<< 1) ^^^ 0x1021#16 else c <<< 1)

/-- A byte taken into the CRC-16 register, most significant bit first. -/
def crc16Byte (c : BitVec 16) (b : Byte) : BitVec 16 := crc16Shift 8 (c ^^^ (b ++ 0#8))

/-- The CRC-16 of a byte string: start 0xFFFF, no final inversion (R186). -/
def crc16 (bytes : List Byte) : BitVec 16 := bytes.foldl crc16Byte 0xFFFF#16

/-- The two CRC bytes that end a frame. -/
def crc16Bytes (bytes : List Byte) : List Byte := u16 (crc16 bytes).toNat

/-! ## Requests (R190) -/

/-- The sync value of a request frame (R180). -/
def syncByte : Byte := 0xA5#8

/-- The first byte of a read transaction (R179). -/
def readByte : Byte := 0x3C#8

/-- The configuration in the layout of ZONE_SET bytes 2 to 30 (R190). -/
def ZoneParams.bytes (c : ZoneParams) : List Byte :=
  u8 c.level :: u16 c.lo ++ u16 c.hi ++ u16 c.raisedOn ++ u16 c.highOn ++ u16 c.purgeOn
    ++ [u8 c.bandH, u8 c.kRise, u8 c.kFall, u8 c.loadWeight, u8 c.demandH, u8 c.blindStage]
    ++ u16 c.staleTicks ++ u16 c.proofTicks ++ u16 c.rundownTicks ++ u16 c.dwellUp ++ u16 c.dwellDown ++ maskBytes c.mask

/-- The configuration values in a ZONE_SET's parameters, from byte 2 on (R190). -/
def ZoneParams.ofBytes (p : List Byte) : ZoneParams :=
  { level := byteAt p 2, lo := wordAt p 3, hi := wordAt p 5, raisedOn := wordAt p 7, highOn := wordAt p 9,
    purgeOn := wordAt p 11, bandH := byteAt p 13, kRise := byteAt p 14, kFall := byteAt p 15, loadWeight := byteAt p 16,
    demandH := byteAt p 17, blindStage := byteAt p 18, staleTicks := wordAt p 19, proofTicks := wordAt p 21,
    rundownTicks := wordAt p 23, dwellUp := wordAt p 25, dwellDown := wordAt p 27, mask := BitVec.ofNat 16 (wordAt p 29) }

/-- The site fields in the layout of SITE_SET (R190). -/
def SiteParams.bytes (c : SiteParams) : List Byte :=
  u16 c.settleTicks ++ u16 c.departTicks ++ u16 c.holdTicks
    ++ [u8 c.raisedPenalty, u8 c.holdWeight, u8 c.base, u8 c.guide, u8 c.active, u8 c.parked, u8 c.aisleIdle, u8 c.aisleActive]
    ++ u16 c.aisleTicks ++ maskBytes c.mask

/-- The site fields in a SITE_SET's parameters (R190). -/
def SiteParams.ofBytes (p : List Byte) : SiteParams :=
  { settleTicks := wordAt p 0, departTicks := wordAt p 2, holdTicks := wordAt p 4, raisedPenalty := byteAt p 6,
    holdWeight := byteAt p 7, base := byteAt p 8, guide := byteAt p 9, active := byteAt p 10, parked := byteAt p 11,
    aisleIdle := byteAt p 12, aisleActive := byteAt p 13, aisleTicks := wordAt p 14, mask := BitVec.ofNat 16 (wordAt p 16) }

/-- The request code and the parameter bytes of a host request (R190); `none` for an event, a read and a malformed frame. -/
def Instr.request : Instr → Option (Nat × List Byte)
  | .getBay b => some (1, u16 b)
  | .getRow r => some (2, [u8 r])
  | .bayClose b => some (3, u16 b)
  | .bayOpen b => some (4, u16 b)
  | .holdRelease b => some (5, u16 b)
  | .zoneSetInUse z u c => some (6, u8 z :: u8 u :: c.bytes)
  | .zoneSetFree z c => some (6, u8 z :: u8 0 :: c.bytes)
  | .zoneShed z => some (7, [u8 z])
  | .zoneUnshed z => some (8, [u8 z])
  | .getZone z => some (9, [u8 z])
  | .routeSet e z c => some (10, [u8 e, u8 z, u8 c])
  | .getRoutes e => some (11, [u8 e])
  | .siteSet c => some (12, c.bytes)
  | .getSite => some (13, [])
  | .editOpen r o => some (14, [u8 r, u8 o])
  | .editPut z c f => some (15, [u8 z, u8 c, u8 f])
  | .editCommit => some (16, [])
  | .editDrop => some (17, [])
  | .nodeBind l a k b1 b2 => some (18, [u8 l, u8 a, u8 k, u8 b1, u8 b2])
  | .nodeRetire l a => some (19, [u8 l, u8 a])
  | .nodeBar l a => some (20, [u8 l, u8 a])
  | .nodeUnbar l a => some (21, [u8 l, u8 a])
  | .zoneSlotBind f z l a ch ref => some (22, [u8 f, u8 z, u8 l, u8 a, u8 ch] ++ u16 ref)
  | .zoneSlotUnbind f z n => some (22, [u8 f, u8 z, u8 n])
  | .zoneStageBind f z l a => some (23, [u8 f, u8 z, u8 l, u8 a])
  | .zoneStageUnbind f z n => some (23, [u8 f, u8 z, u8 n])
  | .getNode l a => some (24, [u8 l, u8 a])
  | .zoneFloor z v => some (25, [u8 z, u8 v])
  | .fanReset z n => some (26, [u8 z, u8 n])
  | .holdPlaceByBay b t => some (27, u16 b ++ u16 t)
  | .holdPlaceBest e c t => some (28, [u8 e, u8 c] ++ u16 t)
  | .signSet i l a m zs f text =>
    some (29, [u8 i, u8 l, u8 a, u8 m] ++ zoneSetBytes zs ++ [u8 f, u8 text.length] ++ text)
  | .getSign i => some (30, [u8 i])
  | .eventsTake n m => some (31, u8 n :: maskBytes m)
  | .eventsSummary => some (32, [])
  | .clear => some (33, [])
  | .unknownRequest code params => some (code, params)
  | .read _ => none
  | .resetAssert => none
  | .resetRelease => none
  | .startUpEnd => none
  | .settleTimerExpiry _ => none
  | .departTimerExpiry _ => none
  | .holdTimerExpiry _ => none
  | .windowTimerExpiry => none
  | .ageTimerExpiry _ _ => none
  | .proofTimerExpiry _ _ => none
  | .rundownTimerExpiry _ _ => none
  | .dwellTimerExpiry _ => none
  | .aisleTimerExpiry _ _ => none
  | .probeTimerExpiry _ => none
  | .probeWatchEnd _ _ => none
  | .visitStart _ => none
  | .validReply _ _ => none
  | .replyWindowClose _ => none
  | .badReply _ => none
  | .breakDetected _ => none
  | .tick => none
  | .breakLevelChange _ _ => none
  | .frameSent _ => none
  | .malformedRequest _ => none

/-- The frame of a request (R186). -/
def requestFrame (code : Nat) (params : List Byte) : List Byte :=
  let body := syncByte :: u8 code :: u8 params.length :: params
  body ++ crc16Bytes body

/-- Whether a request code is one of the part's codes (R180, section 11.6). -/
def knownCode (code : Nat) : Bool := decide (1 ≤ code) && decide (code ≤ 33)

/-- Whether a parameter list has a length that the request of this code can take (R190). -/
def lengthFits (code : Nat) (p : List Byte) : Bool :=
  let n := p.length
  match code with
  | 1 => n == 2
  | 2 => n == 1
  | 3 => n == 2
  | 4 => n == 2
  | 5 => n == 2
  | 6 => n == 31
  | 7 => n == 1
  | 8 => n == 1
  | 9 => n == 1
  | 10 => n == 3
  | 11 => n == 1
  | 12 => n == 18
  | 13 => n == 0
  | 14 => n == 2
  | 15 => n == 3
  | 16 => n == 0
  | 17 => n == 0
  | 18 => n == 5
  | 19 => n == 2
  | 20 => n == 2
  | 21 => n == 2
  | 22 => if byteAt p 0 = 0 then n == 7 else if byteAt p 0 = 1 then n == 3 else n == 7 || n == 3
  | 23 => if byteAt p 0 = 0 then n == 4 else if byteAt p 0 = 1 then n == 3 else n == 4 || n == 3
  | 24 => n == 2
  | 25 => n == 2
  | 26 => n == 2
  | 27 => n == 4
  | 28 => n == 4
  | 29 => n == 10 + byteAt p 9
  | 30 => n == 1
  | 31 => n == 3
  | 32 => n == 0
  | 33 => n == 0
  | _ => false

/-- The request of a known code whose parameters have a length that fits (R190). -/
def requestOf (code : Nat) (p : List Byte) : Instr :=
  match code with
  | 1 => .getBay (wordAt p 0)
  | 2 => .getRow (byteAt p 0)
  | 3 => .bayClose (wordAt p 0)
  | 4 => .bayOpen (wordAt p 0)
  | 5 => .holdRelease (wordAt p 0)
  | 6 =>
    if byteAt p 1 = 0 then .zoneSetFree (byteAt p 0) (ZoneParams.ofBytes p)
    else .zoneSetInUse (byteAt p 0) (byteAt p 1) (ZoneParams.ofBytes p)
  | 7 => .zoneShed (byteAt p 0)
  | 8 => .zoneUnshed (byteAt p 0)
  | 9 => .getZone (byteAt p 0)
  | 10 => .routeSet (byteAt p 0) (byteAt p 1) (byteAt p 2)
  | 11 => .getRoutes (byteAt p 0)
  | 12 => .siteSet (SiteParams.ofBytes p)
  | 13 => .getSite
  | 14 => .editOpen (byteAt p 0) (byteAt p 1)
  | 15 => .editPut (byteAt p 0) (byteAt p 1) (byteAt p 2)
  | 16 => .editCommit
  | 17 => .editDrop
  | 18 => .nodeBind (byteAt p 0) (byteAt p 1) (byteAt p 2) (byteAt p 3) (byteAt p 4)
  | 19 => .nodeRetire (byteAt p 0) (byteAt p 1)
  | 20 => .nodeBar (byteAt p 0) (byteAt p 1)
  | 21 => .nodeUnbar (byteAt p 0) (byteAt p 1)
  | 22 =>
    if p.length = 7 then .zoneSlotBind (byteAt p 0) (byteAt p 1) (byteAt p 2) (byteAt p 3) (byteAt p 4) (wordAt p 5)
    else .zoneSlotUnbind (byteAt p 0) (byteAt p 1) (byteAt p 2)
  | 23 =>
    if p.length = 4 then .zoneStageBind (byteAt p 0) (byteAt p 1) (byteAt p 2) (byteAt p 3)
    else .zoneStageUnbind (byteAt p 0) (byteAt p 1) (byteAt p 2)
  | 24 => .getNode (byteAt p 0) (byteAt p 1)
  | 25 => .zoneFloor (byteAt p 0) (byteAt p 1)
  | 26 => .fanReset (byteAt p 0) (byteAt p 1)
  | 27 => .holdPlaceByBay (wordAt p 0) (wordAt p 2)
  | 28 => .holdPlaceBest (byteAt p 0) (byteAt p 1) (wordAt p 2)
  | 29 =>
    .signSet (byteAt p 0) (byteAt p 1) (byteAt p 2) (byteAt p 3)
      (BitVec.ofNat 32 (65536 * wordAt p 4 + wordAt p 6)) (byteAt p 8) (p.drop 10)
  | 30 => .getSign (byteAt p 0)
  | 31 => .eventsTake (byteAt p 0) (BitVec.ofNat 16 (wordAt p 1))
  | 32 => .eventsSummary
  | 33 => .clear
  | _ => .unknownRequest code p

/-- What the bytes of a request transaction are judged to be (R180). -/
inductive Judgement where
  /-- refused with FRAME -/
  | frame
  /-- refused with UNKNOWN -/
  | unknown (code : Nat) (params : List Byte)
  /-- handed to its owner -/
  | request (c : Instr)
  deriving DecidableEq, Repr

/-- The checks of R180, in their order. -/
def judge (bytes : List Byte) : Judgement :=
  if bytes.length < 5 then .frame
  else if bytes.getD 0 0#8 ≠ syncByte then .frame
  else if 64 < byteAt bytes 2 ∨ bytes.length ≠ 5 + byteAt bytes 2 then .frame
  else if crc16Bytes (bytes.take (3 + byteAt bytes 2)) ≠ bytes.drop (3 + byteAt bytes 2) then .frame
  else
    let code := byteAt bytes 1
    let params := (bytes.drop 3).take (byteAt bytes 2)
    if knownCode code = false then .unknown code params
    else if lengthFits code params = false then .frame
    else .request (requestOf code params)

/-- The transaction that the bytes clocked between the fall and the rise of chip select are (R179): none where no whole byte
was clocked, a read where the first byte is READ, and otherwise a request, judged by R180. -/
def transactionOf (bytes : List Byte) : Option Instr :=
  match bytes with
  | [] => none
  | first :: _ =>
    if first = readByte then some (.read bytes.length)
    else
      match judge bytes with
      | .frame => some (.malformedRequest bytes)
      | .unknown code params => some (.unknownRequest code params)
      | .request c => some c

/-- The command a word of the opcode table spells: the table gives no row any bits, so none does. -/
def decodeTableWord (_nbits _w : Nat) : Option Instr := none

end Sys2Proof
end

