-- ==== Sys2Proof/Machine/Operands.lean ====
section
/-! DEFINITION. Operand forms: how an enumeration is coded in a parameter byte and in a payload (R187 to R191), and the range
checks of ZONE_SET (R29), SITE_SET (R41) and the record numbers. -/

namespace Sys2Proof.Machine

/-! ## Codes of enumerations -/

/-- class (R190). -/
def BayClass.ofCode : Nat → Option BayClass
  | 0 => some .standard
  | 1 => some .compact
  | 2 => some .accessible
  | 3 => some .charging
  | 4 => some .staff
  | 5 => some .retired
  | _ => none

/-- class (R189). -/
def BayClass.code : BayClass → Nat
  | .standard => 0
  | .compact => 1
  | .accessible => 2
  | .charging => 3
  | .staff => 4
  | .retired => 5

/-- The four offerable classes (R2). -/
def BayClass.offerable : BayClass → Bool
  | .standard => true
  | .compact => true
  | .accessible => true
  | .charging => true
  | .staff => false
  | .retired => false

/-- closed flag (R190). -/
def closedOfCode : Nat → Option Bool
  | 0 => some false
  | 1 => some true
  | _ => none

/-- A yes or no as 1 or 0. -/
def flagCode (b : Bool) : Nat := if b then 1 else 0

/-- census (R189). -/
def Census.code : Census → Nat
  | .vacant => 0
  | .arriving => 1
  | .parked => 2
  | .leaving => 3
  | .dark => 4

/-- kind (R187, R190). -/
def NodeKind.ofCode : Nat → Option NodeKind
  | 1 => some .row
  | 2 => some .gas
  | 3 => some .fan
  | 4 => some .sign
  | 5 => some .entry
  | _ => none

/-- kind (R187). -/
def NodeKind.code : NodeKind → Nat
  | .row => 1
  | .gas => 2
  | .fan => 3
  | .sign => 4
  | .entry => 5

/-- The kind a node record is of (R65); none when it is OFF. -/
def Service.kind : Service → Option NodeKind
  | .none => Option.none
  | .row _ _ _ => some .row
  | .gas => some .gas
  | .fan => some .fan
  | .sign => some .sign
  | .entry _ _ => some .entry

/-- sign mode (R190). -/
def SignMode.ofCode : Nat → Option SignMode
  | 0 => some .off
  | 1 => some .count
  | 2 => some .text
  | _ => none

/-- sign mode (R190). -/
def SignMode.code : SignMode → Nat
  | .off => 0
  | .count => 1
  | .text => 2

/-- class filter (R190). -/
def ClassFilter.ofCode : Nat → Option ClassFilter
  | 0 => some .all
  | 1 => some .standard
  | 2 => some .compact
  | 3 => some .accessible
  | 4 => some .charging
  | _ => none

/-- class filter (R190). -/
def ClassFilter.code : ClassFilter → Nat
  | .all => 0
  | .standard => 1
  | .compact => 2
  | .accessible => 3
  | .charging => 4

/-- line state (R191). -/
def LineState.code : LineState → Nat
  | .idle => 0
  | .scanning => 1
  | .fault => 2

/-- node state (R191). -/
def NodeState.code : NodeState → Nat
  | .off => 0
  | .live => 1
  | .silent => 2
  | .barred => 3

/-- expected toggle (R191). -/
def Expected.code : Expected → Nat
  | .zero => 0
  | .one => 1
  | .any => 2

/-- marker (R187, R191). -/
def Marker.code : Marker → Nat
  | .none => 0
  | .barred => 1
  | .busy => 2

/-- reason (R181). -/
def Reason.code : Reason → Nat
  | .done => 0
  | .busy => 1
  | .range => 2
  | .state => 3
  | .conflict => 4
  | .noBay => 5
  | .frame => 6
  | .unknown => 7

/-- band (R191). -/
def Band.code : Band → Nat
  | .clear => 0
  | .raised => 1
  | .high => 2
  | .purge => 3

/-- stage status (R191). -/
def StageStatus.code : StageStatus → Nat
  | .idle => 0
  | .starting => 1
  | .running => 2
  | .stopping => 3
  | .faulted => 4

/-- fault cause (R191). -/
def causeCode : Option Cause → Nat
  | none => 0
  | some .noProof => 1
  | some .trip => 2
  | some .silent => 3

/-- sequencer state (R191). -/
def SeqState.code : SeqState → Nat
  | .idle => 0
  | .stepUp => 1
  | .stepDown => 2
  | .dwell => 3

/-- direction (R191). -/
def Direction.code : Direction → Nat
  | .up => 1
  | .down => 2

/-- outcome of a sequence (R191). -/
def SeqOutcome.code : SeqOutcome → Nat
  | .none => 0
  | .done => 1
  | .short => 2
  | .cut => 3

/-! ## Ranges -/

/-- Whether a number lies in a range that includes both ends (00_scope.md, Numbering). -/
def within (lo hi n : Nat) : Bool := decide (lo ≤ n) && decide (n ≤ hi)

/-- bay number (R21). -/
def bayInRange (b : Nat) : Bool := decide (b < Config.bayCount)

/-- row number (R22). -/
def rowInRange (r : Nat) : Bool := decide (r < Config.rowCount)

/-- zone number (R29). -/
def zoneInRange (z : Nat) : Bool := decide (z < Config.zoneCount)

/-- line and address (R54). -/
def nodeInRange (l a : Nat) : Bool := decide (l < Config.lineCount) && within 1 Config.lastAddress a

/-- Whether every kind of `e` is a kind of `kinds`. -/
def onlyKindsOf (kinds e : EventSet) : Bool := decide (e &&& ~~~kinds = 0#16)

/-- The ranges and relations of R29. -/
def zoneParamsInRange (c : ZoneParams) : Bool :=
  within 1 7 c.level && decide (c.lo < c.hi) && decide (c.hi ≤ 4095)
    && decide (c.bandH < c.raisedOn) && decide (c.raisedOn < c.highOn) && decide (c.highOn < c.purgeOn)
    && decide (c.purgeOn ≤ 4095) && within 0 255 c.bandH && within 0 4 c.kRise && within 0 4 c.kFall
    && within 0 255 c.loadWeight && within 0 200 c.demandH && within 0 4 c.blindStage
    && within 20 600 c.staleTicks && within 20 600 c.proofTicks && within 10 600 c.rundownTicks
    && within 0 3000 c.dwellUp && within 0 3000 c.dwellDown && onlyKindsOf zoneKinds c.mask

/-- The checks of SITE_SET (R41): the four tick counts and the SITE enable mask. -/
def siteParamsInRange (c : SiteParams) : Bool :=
  within 10 1200 c.settleTicks && within 10 1200 c.departTicks && within 100 6000 c.holdTicks
    && within 10 6000 c.aisleTicks && onlyKindsOf siteKinds c.mask

/-- A light level or hold_weight as it is stored: 16 and above as 15 (R41). -/
def saturate15 (n : Nat) : Nat := min n 15

/-- The site fields as SITE_SET stores them (R41). -/
def saturatedSite (c : SiteParams) : SiteParams :=
  { c with holdWeight := saturate15 c.holdWeight, base := saturate15 c.base, guide := saturate15 c.guide,
           active := saturate15 c.active, parked := saturate15 c.parked, aisleIdle := saturate15 c.aisleIdle,
           aisleActive := saturate15 c.aisleActive }

end Sys2Proof.Machine
end

