-- ==== Sys2Proof/Machine/Wire.lean ====
section
/-! DEFINITION. What the part sends and takes, byte by byte: response frames (R186), field line frames and their payloads
(R187, R188), the wire form of a bay record (R189) and of a zone record (R191). -/

namespace Sys2Proof.Machine

/-! ## Response frames (R186) -/

/-- A frame from its bytes before the CRC. -/
def withCrc16 (body : List Byte) : List Byte := body ++ crc16Bytes body

/-- The status byte of a response (R186). -/
def Response.status (r : Response) : Nat :=
  (if r.reason = .done then 0 else 1) + (if r.overrun then 128 else 0)

/-- The frame of a held response (R183, R186). -/
def Response.frame (r : Response) : List Byte :=
  withCrc16 (u8 r.status :: u8 r.code :: u8 r.reason.code :: u8 r.payload.length :: r.payload)

/-- The frame sent while the buffer is empty: status EMPTY, code 0, reason 0, payload length 0 (R183). -/
def emptyFrame : List Byte := withCrc16 [u8 3, u8 0, u8 0, u8 0]

/-- The idle byte the part drives (R179). -/
def idleByte : Byte := 0xFF#8

/-! ## Field line frames (R187) -/

/-- Eight shifts of the CRC-8 register: generator x^8 + x^2 + x + 1. -/
def crc8Shift : Nat → Byte → Byte
  | 0, c => c
  | n + 1, c => crc8Shift n (if c.msb then (c <<< 1) ^^^ 0x07#8 else c <<< 1)

/-- The CRC-8 of a byte string: start 0, each byte most significant bit first (R187). -/
def crc8 (bytes : List Byte) : Byte := bytes.foldl (fun c b => crc8Shift 8 (c ^^^ b)) 0#8

/-- The start mark: ninth bit 1, low eight bits 0 (R187). -/
def startMark : Char9 := 0x100#9

/-- A byte as a character that is no start mark (R187). -/
def plainChar (b : Byte) : Char9 := 0#1 ++ b

/-- The characters of a frame with the given address and control characters (R187). -/
def lineFrame (address control : Nat) (payload : List Byte) : List Char9 :=
  let body := u8 address :: u8 control :: u8 payload.length :: payload
  startMark :: (body ++ [crc8 body]).map plainChar

/-- The acknowledgement in the coding of R187: 0 NONE, 2 toggle 0, 3 toggle 1, from the expected toggle (R77). -/
def Expected.ackCode : Expected → Nat
  | .any => 0
  | .zero => 3
  | .one => 2

/-- The control character of a frame from the part (R187). -/
def controlFromPart (k : NodeKind) (command : Bool) (e : Expected) (m : Marker) : Nat :=
  k.code + 8 * flagCode command + 16 * e.ackCode + 64 * m.code

/-! ## Replies (R70, R86, R188) -/

/-- The content of a report (R85, R86). Presence: offset i at bit i. -/
inductive Report where
  | row (presence : BitVec 16) (motion : Bool)
  | gas (reading0 : Nat) (valid0 : Bool) (reading1 : Nat) (valid1 : Bool)
  | fan (proof trip : Bool)
  | entry (acknowledged : Bool) (request : Option (BayClass × Nat))
  deriving DecidableEq, Repr

/-- What a valid reply carries (R78): a null report, or a report with its toggle. -/
inductive Reply where
  | null
  | report (toggle : Bool) (body : Report)
  deriving DecidableEq, Repr

/-- The class of an entry report (R188). -/
def entryClassOfCode : Nat → Option BayClass
  | 1 => some .standard
  | 2 => some .compact
  | 3 => some .accessible
  | 4 => some .charging
  | _ => none

/-- The report in a payload of a node of kind `k`; none where the payload is not one that kind may send (R86, R188). Bits
that R188 does not name are ignored (log entry 24). -/
def reportOf (k : NodeKind) (p : List Byte) : Option Report :=
  match k with
  | .row => if p.length = 3 then some (.row (BitVec.ofNat 16 (wordAt p 0)) ((byteAt p 2).testBit 0)) else none
  | .gas =>
    if p.length = 4 then
      some (.gas (wordAt p 0 % 4096) ((wordAt p 0).testBit 15) (wordAt p 2 % 4096) ((wordAt p 2).testBit 15))
    else none
  | .fan => if p.length = 1 then some (.fan ((byteAt p 0).testBit 0) ((byteAt p 0).testBit 1)) else none
  | .sign => none
  | .entry =>
    if p.length = 4 then
      if (byteAt p 0).testBit 1 then
        match entryClassOfCode (byteAt p 1) with
        | some c => some (.entry ((byteAt p 0).testBit 0) (some (c, wordAt p 2)))
        | none => none
      else some (.entry ((byteAt p 0).testBit 0) none)
    else none

/-- The reply in the bytes after the start mark, for a visit to `address` whose record is of kind `k` (R70). -/
def replyOfBytes (k : NodeKind) (address : Nat) (bytes : List Byte) : Option Reply :=
  let len := byteAt bytes 2
  let control := byteAt bytes 1
  let p := (bytes.drop 3).take len
  if bytes.length ≠ 4 + len then none
  else if bytes.getD (3 + len) 0#8 ≠ crc8 (bytes.take (3 + len)) then none
  else if byteAt bytes 0 ≠ 128 + address then none
  else if control % 8 ≠ k.code then none
  else if control.testBit 3 then
    match reportOf k p with
    | some r => some (.report (control.testBit 4) r)
    | none => none
  else if len = 0 then some .null
  else none

/-- The reply in a run of characters; none where it is not valid by R70. -/
def parseReply (k : NodeKind) (address : Nat) (chars : List Char9) : Option Reply :=
  match chars with
  | [] => none
  | start :: rest =>
    if start = startMark ∧ rest.all (fun c => !c.msb) then replyOfBytes k address (rest.map fun c => c.setWidth 8) else none

/-! ## Records -/

/-- The wire form of a bay record (R189). That the bits R189 does not name are sent as 0 is the model's choice (log entry 32). -/
def bayBytes (b : Bay) (offered : Bool) : List Byte :=
  let flags := b.cls.code + 16 * flagCode b.closed + 32 * flagCode b.hold.isSome + 64 * flagCode offered
  [u8 b.zone, u8 flags, u8 b.census.code] ++ u16 b.stateTimer ++
    match b.hold with
    | some h => u16 h.ticket ++ [u8 h.entrance] ++ u16 h.timer
    | none => [0#8, 0#8, 0#8, 0#8, 0#8]

/-- A node's line and address, or address 0 for none with a line byte that is open (R190, R191; log entry 13). -/
def nodeBytes : Option NodeId → List Byte
  | some id => [u8 id.line, u8 id.address]
  | none => [Config.noNodeLineByte, 0#8]

/-- The tallies in the order of R35 (R191). -/
def Tallies.bytes (t : Tallies) : List Byte :=
  u16 t.capacity ++ u16 t.vacant ++ u16 t.arriving ++ u16 t.parked ++ u16 t.leaving ++ u16 t.dark ++ u16 t.holds
    ++ u16 t.closed ++ u16 t.offeredStandard ++ u16 t.offeredCompact ++ u16 t.offeredAccessible ++ u16 t.offeredCharging

/-- A gas slot in ten bytes (R191). -/
def Slot.bytes (g : Slot) : List Byte :=
  [u8 g.node.line, u8 g.node.address, u8 g.channel] ++ u16 g.ref ++ u16 g.n ++ [u8 (flagCode g.fresh)] ++ u16 g.age

/-- The remaining proof or rundown ticks of a stage, 0 when neither runs (R35). -/
def Stage.ticksLeft (g : Stage) : Nat :=
  match g.status with
  | .starting => g.proof
  | .stopping => g.rundown
  | .idle => 0
  | .running => 0
  | .faulted => 0

/-- A fan stage in six bytes (R191). -/
def Stage.bytes (g : Stage) : List Byte :=
  [u8 g.node.line, u8 g.node.address, u8 g.status.code, u8 (causeCode g.cause)] ++ u16 g.ticksLeft

/-- The sequence in progress (R191). With none in progress R191 gives the direction alone, 0; that the origin, goal and steps
bytes are then 0 too is the model's choice (log entry 29). -/
def sequenceBytes : Option Sequence → List Byte
  | some q => [u8 q.dir.code, u8 q.origin, u8 q.goal, u8 q.steps]
  | none => [0#8, 0#8, 0#8, 0#8]

/-- An edit's row, cursor and window ticks (R191). -/
def Edit.headBytes (e : Edit) : List Byte := [u8 e.row, u8 e.cursor] ++ u16 e.window

/-- An edit's entries (R191). -/
def Edit.entryBytes (e : Edit) : List Byte :=
  e.entries.flatMap fun x => [u8 x.zone, u8 x.cls.code, u8 (flagCode x.closed)]

end Sys2Proof.Machine
end

