-- ==== Sys2Proof/Machine/Ops.lean ====
section
/-! DEFINITION. The shared operations over the whole state: marking a node's output, writing a zone record, one change of the
bay table with its hand-overs (R18), the signs (R150, R151), the light sets (R161 to R166), the effects of silence and bar
(R56, R72), the selection (R140 to R143), the placing of a hold (R11), and the taking of a host transaction (R180, R182). -/

namespace Sys2Proof.Machine

/-! ## Lists -/

/-- A list of numbers without repeats, each at its first place. -/
def distinct : List Nat → List Nat
  | [] => []
  | x :: xs => x :: (distinct xs).filter fun y => decide (y ≠ x)

/-- Insertion into a list that rises by `rank`. -/
def insertByRank (rank : Nat → Nat) (x : Nat) : List Nat → List Nat
  | [] => [x]
  | y :: ys => if rank x ≤ rank y then x :: y :: ys else y :: insertByRank rank x ys

/-- A list put in the order of `rank`. -/
def sortByRank (rank : Nat → Nat) : List Nat → List Nat
  | [] => []
  | x :: xs => insertByRank rank x (sortByRank rank xs)

/-- Effects that the spec leaves without order (log entry 10): where taking the items forwards and backwards ends in the same
state that state is taken, and otherwise a free value orders them. -/
def State.inAnyOrder (s : State) (f : State → Nat → State) (items : List Nat) : State :=
  match items with
  | [] => s
  | [x] => f s x
  | x :: y :: rest =>
    let forwards := (x :: y :: rest).foldl f s
    let backwards := (x :: y :: rest).reverse.foldl f s
    if forwards = backwards then forwards
    else (sortByRank (Config.rank s.choices) (x :: y :: rest)).foldl f { s with choices := s.choices + 1 }

/-! ## Output pending and zone records -/

/-- Output pending set on a node that is not OFF (R67). -/
def State.markOutput (s : State) (id : NodeId) : State :=
  if (s.node id).state = .off then s else s.setNode id { s.node id with outputPending := true }

/-- A zone record written, with output pending set on each FAN node whose content changed between RUN and STOP (R117). -/
def State.putZone (s : State) (z : Nat) (x : Zone) : State :=
  let changed := (x.stages.map (·.node)).filter fun id => x.fanRuns id != (s.zone z).fanRuns id
  changed.foldl State.markOutput (s.setZone z x)

/-! ## Offered bays and tallies (R10, R17) -/

/-- Whether a bay of zone record `z` is offered (R10). -/
def Bay.offeredIn (b : Bay) (z : Zone) : Bool :=
  b.cls.offerable && !b.closed && decide (b.census = .vacant) && b.hold.isNone && z.inUse && !z.shed

/-- Whether a bay is offered (R10). -/
def State.offered (s : State) (b : Bay) : Bool := b.offeredIn (s.zone b.zone)

/-- A count one higher where the condition holds. -/
def countIf (n : Nat) (b : Bool) : Nat := if b then n + 1 else n

/-- The tallies with one more bay counted (R17). -/
def Tallies.add (t : Tallies) (b : Bay) (offered : Bool) : Tallies :=
  { capacity := t.capacity + 1
    vacant := countIf t.vacant (decide (b.census = .vacant))
    arriving := countIf t.arriving (decide (b.census = .arriving))
    parked := countIf t.parked (decide (b.census = .parked))
    leaving := countIf t.leaving (decide (b.census = .leaving))
    dark := countIf t.dark (decide (b.census = .dark))
    holds := countIf t.holds b.hold.isSome
    closed := countIf t.closed b.closed
    offeredStandard := countIf t.offeredStandard (offered && decide (b.cls = .standard))
    offeredCompact := countIf t.offeredCompact (offered && decide (b.cls = .compact))
    offeredAccessible := countIf t.offeredAccessible (offered && decide (b.cls = .accessible))
    offeredCharging := countIf t.offeredCharging (offered && decide (b.cls = .charging)) }

/-- Whether a bay counts in the tallies of zone number `z`: it is in service and its zone field is `z` (R17). -/
def Bay.countsIn (b : Bay) (z : Nat) : Bool := decide (b.cls ≠ .retired) && decide (b.zone = z)

/-- The tallies of zone number `z`, counted from the bay records (R17). -/
def State.tallyOf (s : State) (z : Nat) : Tallies :=
  s.bays.foldl (fun t e => if e.2.countsIn z then t.add e.2 (e.2.offeredIn (s.zone z)) else t) Tallies.zero

/-- The offered sum of a zone (R17). -/
def Tallies.offeredSum (t : Tallies) : Nat :=
  t.offeredStandard + t.offeredCompact + t.offeredAccessible + t.offeredCharging

/-- Whether the tallies that the engine load reads moved (R18). -/
def Tallies.loadMoved (t t' : Tallies) : Bool :=
  decide (t.arriving ≠ t'.arriving) || decide (t.leaving ≠ t'.leaving) || decide (t.holds ≠ t'.holds)

/-- A zone record taking new tallies: the test for FULL and OPEN (R20), and the engine load handed to the ventilation unit
where it moved (R18, R110). -/
def Zone.takeTallies (z : Zone) (t : Tallies) : Zone :=
  let before := z.tallies.offeredSum
  let after := t.offeredSum
  let z' := (({ z with tallies := t }).raiseIf (decide (0 < before) && decide (after = 0)) .full).raiseIf
    (decide (before = 0) && decide (0 < after)) .opened
  if z.tallies.loadMoved t then z'.demandChange false else z'

/-- The tallies of zone `z` moved to agree with the bay records (R18). -/
def State.retally (s : State) (z : Nat) : State := s.putZone z ((s.zone z).takeTallies (s.tallyOf z))

/-! ## Signs (R150 to R153) -/

/-- The count a class filter takes from a zone (R150). -/
def ClassFilter.countOf (f : ClassFilter) (t : Tallies) : Nat :=
  match f with
  | .all => t.offeredSum
  | .standard => t.offeredStandard
  | .compact => t.offeredCompact
  | .accessible => t.offeredAccessible
  | .charging => t.offeredCharging

/-- The zones of a set, ascending. -/
def zonesOf (zs : ZoneSet) : List Nat := zoneNumbers.filter fun z => zs.getLsbD z

/-- The sum of the offered counts a filter takes over a zone set, capped at 999 (R150). -/
def State.signCount (s : State) (zs : ZoneSet) (f : ClassFilter) : Nat :=
  min 999 ((zonesOf zs).foldl (fun n z => n + f.countOf (s.zone z).tallies) 0)

/-- Output pending set on the node of a sign, when it names one. -/
def State.markSignNode (s : State) (node : Option NodeId) : State :=
  match node with
  | some id => s.markOutput id
  | none => s

/-- The computed value of sign `i` recomputed; a change in COUNT mode marks its node (R151, R153). -/
def State.recomputeSign (s : State) (i : Nat) : State :=
  let g := s.sign i
  let v := s.signCount g.zones g.filter
  if v = g.value then s
  else
    let s' := s.setSign i { g with value := v }
    if g.mode = .count then s'.markSignNode g.node else s'

/-- The sign numbers. -/
def signNumbers : List Nat := List.range Config.signCount

/-- Every sign whose zone set includes a zone of `zs` recomputed once (R18, R151). -/
def State.signsOver (s : State) (zs : List Nat) : State :=
  (signNumbers.filter fun i => zs.any fun z => (s.sign i).zones.getLsbD z).foldl State.recomputeSign s

/-! ## Light sets (R160 to R166) -/

/-- The level and flash flag of a lit bay (R161). -/
def State.bayLight (s : State) (b : Bay) : Nat × Bool :=
  if b.cls ≠ .retired ∧ (s.zone b.zone).band = .purge then (15, false)
  else if b.cls = .retired ∨ b.closed = true then (0, false)
  else if b.hold.isSome then (s.site.guide, true)
  else
    match b.census with
    | .arriving => (s.site.active, false)
    | .leaving => (s.site.active, false)
    | .parked => (s.site.parked, false)
    | .vacant => (s.site.base, false)
    | .dark => (s.site.base, false)

/-- The lit bays of a node of row `r` with bay count `n` (R160). -/
def State.litBays (s : State) (r n : Nat) : List Bay := (List.range n).map fun i => s.bay (16 * r + i)

/-- The counted bays: the lit bays that are not RETIRED (R160). -/
def State.countedBays (s : State) (r n : Nat) : List Bay := (s.litBays r n).filter fun b => decide (b.cls ≠ .retired)

/-- Whether the row is active (R163). -/
def State.rowActive (s : State) (r n : Nat) (timer : Option Nat) : Bool :=
  timer.isSome || (s.countedBays r n).any fun b =>
    decide (b.census = .arriving) || decide (b.census = .leaving) || b.hold.isSome

/-- The aisle level (R162). -/
def State.aisleLevel (s : State) (r n : Nat) (timer : Option Nat) : Nat :=
  if (s.countedBays r n).any fun b => decide ((s.zone b.zone).band = .purge) then 15
  else if s.rowActive r n timer then s.site.aisleActive
  else s.site.aisleIdle

/-- The light set derived from the records as they stand (R161 to R163). -/
def State.lightsOf (s : State) (r n : Nat) (timer : Option Nat) : LightSet :=
  { bays := (s.litBays r n).map s.bayLight, aisle := s.aisleLevel r n timer, timer := timer }

/-- The light set of the node of number `k` recomputed; a set that differs marks the node and becomes the set last computed
(R165, R166). -/
def State.recomputeLights (s : State) (k : Nat) : State :=
  let id := nodeIdOf k
  match (s.node id).service with
  | .row r n lights =>
    let new := s.lightsOf r n lights.timer
    if new = lights then s
    else s.setNode id { s.node id with service := .row r n new, outputPending := true }
  | .none => s
  | .gas => s
  | .fan => s
  | .sign => s
  | .entry _ _ => s

/-- The numbers of the nodes whose record meets `p`, ascending by line and address. -/
def State.nodesWhere (s : State) (p : Node → Bool) : List Nat :=
  (Table.keys s.nodes).filter fun k => p (s.node (nodeIdOf k))

/-- Whether a node record is of kind ROW for row `r`. -/
def Node.servesRow (n : Node) (r : Nat) : Bool :=
  match n.service with
  | .row r' _ _ => decide (r' = r)
  | .none => false
  | .gas => false
  | .fan => false
  | .sign => false
  | .entry _ _ => false

/-- Whether a node record is of kind ROW. -/
def Node.isRow (n : Node) : Bool := decide (n.service.kind = some .row)

/-- Whether a ROW node has a lit bay in service in zone `z` (R165). -/
def State.litInZone (s : State) (z : Nat) (n : Node) : Bool :=
  match n.service with
  | .row r count _ => (s.countedBays r count).any fun b => decide (b.zone = z)
  | .none => false
  | .gas => false
  | .fan => false
  | .sign => false
  | .entry _ _ => false

/-- The light sets of the nodes of the given rows recomputed (R18, R165). -/
def State.lightsOfRows (s : State) (rows : List Nat) : State :=
  (s.nodesWhere fun n => rows.any n.servesRow).foldl State.recomputeLights s

/-- The light sets that follow zone `z`'s band recomputed (R103, R165). -/
def State.lightsOfZone (s : State) (z : Nat) : State :=
  (s.nodesWhere (s.litInZone z)).foldl State.recomputeLights s

/-- Every light set recomputed (R42, R170). -/
def State.allLights (s : State) : State := (s.nodesWhere Node.isRow).foldl State.recomputeLights s

/-! ## One change of the bay table (R18), and of a zone record (R30, R32, R103) -/

/-- The bays of `changes` written as one change of the bay table, with its hand-overs: the tallies of every zone it touches
and the test for FULL and OPEN (R18, R20), the signs (R151), and the light sets of the rows (R165). -/
def State.censusChange (s : State) (changes : List (Nat × Bay)) : State :=
  let zs := distinct (changes.flatMap fun e => [(s.bay e.1).zone, e.2.zone])
  let rows := distinct (changes.map fun e => e.1 / 16)
  let s1 := changes.foldl (fun s e => s.setBay e.1 e.2) s
  let s2 := zs.foldl State.retally s1
  (s2.signsOver zs).lightsOfRows rows

/-- A zone record changed in its fume part or configuration: where that changes the shed condition or the use state, the
offered counts follow (R19, R32), and where the band enters or leaves PURGE the light sets follow (R103). -/
def State.changeZone (s : State) (z : Nat) (x : Zone) : State :=
  let old := s.zone z
  let s1 := s.putZone z x
  let s2 := if old.shed = x.shed ∧ old.inUse = x.inUse then s1 else (s1.retally z).signsOver [z]
  if decide (old.band = .purge) = decide (x.band = .purge) then s2 else s2.lightsOfZone z

/-! ## Darkness, staleness, abandonment, silence (R8, R56, R72, R95, R138) -/

/-- A bay gone DARK (R8). -/
def Bay.darkened (b : Bay) : Bay := { b with census := .dark, stateTimer := 0 }

/-- The bay numbers of a row, ascending. -/
def rowBays (r : Nat) : List Nat := (List.range 16).map fun i => 16 * r + i

/-- Every non-RETIRED bay of the row goes DARK, as one change; a bay that is DARK already is unchanged (R8). -/
def State.darkenRow (s : State) (r : Nat) : State :=
  let changed := (rowBays r).filter fun b => decide ((s.bay b).cls ≠ .retired) && decide ((s.bay b).census ≠ .dark)
  s.censusChange (changed.map fun b => (b, (s.bay b).darkened))

/-- Whether a zone has a slot that names node `id`. -/
def Zone.hasSlotOf (z : Zone) (id : NodeId) : Bool := z.slots.any fun g => decide (g.node = id)

/-- Whether a zone has a stage that names node `id`. -/
def Zone.hasStageOf (z : Zone) (id : NodeId) : Bool := z.stages.any fun g => decide (g.node = id)

/-- The zones that meet `p`, ascending. -/
def State.zonesWhere (s : State) (p : Zone → Bool) : List Nat := zoneNumbers.filter fun z => p (s.zone z)

/-- Every slot that names node `id` goes stale, as one change per zone (R95). -/
def State.staleGasNode (s : State) (id : NodeId) : State :=
  (s.zonesWhere fun z => z.hasSlotOf id).foldl (fun s z => s.changeZone z ((s.zone z).staleNode id)) s

/-- Silence of a FAN node reaches the stage that names it (R119). -/
def State.silenceFanNode (s : State) (id : NodeId) : State :=
  (s.zonesWhere fun z => z.hasStageOf id).foldl
    (fun s z =>
      match (s.zone z).stagePlace id with
      | some i => s.putZone z ((s.zone z).silenceStage i)
      | none => s) s

/-- The open answer of an ENTRY node is abandoned; a READY record is unchanged (R138). -/
def State.abandonAnswer (s : State) (id : NodeId) : State :=
  match (s.node id).service with
  | .entry e answer =>
    if answer = .ready then s
    else s.setNode id { s.node id with service := .entry e .ready, outputPending := true }
  | .none => s
  | .row _ _ _ => s
  | .gas => s
  | .fan => s
  | .sign => s

/-- The effects that a node's bar has on the records of other owners (R56); silence has the same for these kinds (R72). -/
def State.barEffects (s : State) (id : NodeId) : State :=
  match (s.node id).service with
  | .row r _ _ => s.darkenRow r
  | .gas => s.staleGasNode id
  | .entry _ _ => s.abandonAnswer id
  | .none => s
  | .fan => s
  | .sign => s

/-- The zones whose sets take a node's NODE_SILENT or NODE_BACK (R88); none means SITE. -/
def State.eventZones (s : State) (id : NodeId) : List Nat :=
  match (s.node id).service with
  | .row r n _ => distinct ((s.countedBays r n).map (·.zone))
  | .gas => s.zonesWhere fun z => z.hasSlotOf id
  | .fan => s.zonesWhere fun z => z.hasStageOf id
  | .none => []
  | .sign => []
  | .entry _ _ => []

/-- NODE_SILENT or NODE_BACK raised where R88 says. -/
def State.raiseNodeEvent (s : State) (id : NodeId) (k : EventKind) : State :=
  match s.eventZones id with
  | [] => s.raiseSite k
  | z :: zs => (z :: zs).foldl (fun s z => s.raiseZone k z) s

/-- The silence event of a node by its kind (R88). -/
def State.raiseSilence (s : State) (id : NodeId) : State :=
  match (s.node id).service with
  | .sign => s.raiseSite .signSilent
  | .entry _ _ => s.raiseSite .entrySilent
  | .row _ _ _ => s.raiseNodeEvent id .nodeSilent
  | .gas => s.raiseNodeEvent id .nodeSilent
  | .fan => s.raiseNodeEvent id .nodeSilent
  | .none => s

/-- A LIVE node goes SILENT: its state, its event (R88), and the silence effects (R72). -/
def State.goSilent (s : State) (id : NodeId) : State :=
  let s1 := (s.setNode id { s.node id with state := .silent }).raiseSilence id
  if (s.node id).service = .fan then s1.silenceFanNode id else s1.barEffects id

/-! ## Selection and placing of holds (R11, R140 to R146) -/

/-- The count of a zone's acceptable bays for a class (R140). -/
def acceptable (c : BayClass) (t : Tallies) : Nat :=
  match c with
  | .standard => t.offeredStandard + t.offeredCompact
  | .compact => t.offeredCompact
  | .accessible => t.offeredAccessible
  | .charging => t.offeredCharging
  | .staff => 0
  | .retired => 0

/-- Whether zone `z` is a candidate for a selection at entrance `e` (R141). -/
def State.isCandidate (s : State) (e : Nat) (c : BayClass) (z : Nat) : Bool :=
  (s.zone z).inUse && !(s.zone z).shed && decide (s.route e z ≠ Config.unreachable)
    && decide (1 ≤ acceptable c (s.zone z).tallies)

/-- The cost of zone `z` for a selection at entrance `e` (R142). -/
def State.costOf (s : State) (e z : Nat) : Nat :=
  s.route e z + (if (s.zone z).band = .raised then s.site.raisedPenalty else 0)
    + (s.zone z).tallies.holds * s.site.holdWeight

/-- The first of the zones with the lowest cost (R142). -/
def cheapest (cost : Nat → Nat) : List Nat → Option Nat
  | [] => none
  | z :: zs =>
    match cheapest cost zs with
    | none => some z
    | some y => if cost z ≤ cost y then some z else some y

/-- The zone a selection chooses (R141, R142). -/
def State.chooseZone (s : State) (e : Nat) (c : BayClass) : Option Nat :=
  cheapest (s.costOf e) (zoneNumbers.filter (s.isCandidate e c))

/-- The lowest-numbered offered bay of class `c` in zone `z` (R143). -/
def State.lowestOffered (s : State) (c : BayClass) (z : Nat) : Option Nat :=
  (Table.keys s.bays).find? fun b =>
    decide ((s.bay b).zone = z) && decide ((s.bay b).cls = c) && s.offered (s.bay b)

/-- The bay chosen within a zone (R143). -/
def State.chooseBay (s : State) (c : BayClass) (z : Nat) : Option Nat :=
  match s.lowestOffered c z with
  | some b => some b
  | none => if c = .standard then s.lowestOffered .compact z else none

/-- A selection at entrance `e` for class `c` (section 7.3). -/
def State.selection (s : State) (e : Nat) (c : BayClass) : Option Nat :=
  match s.chooseZone e c with
  | some z => s.chooseBay c z
  | none => none

/-- The check of R11: the bay is offered, or it is a STAFF bay that the host may hold. -/
def State.holdAllowed (s : State) (b entrance : Nat) : Bool :=
  let x := s.bay b
  s.offered x
    || (decide (entrance = Config.hostEntrance) && decide (x.cls = .staff) && !x.closed && decide (x.census = .vacant)
      && x.hold.isNone && (s.zone x.zone).inUse)

/-- The census unit asked to place a hold: the state after it, or none where the check of R11 fails. -/
def State.placeHold (s : State) (b ticket entrance : Nat) : Option State :=
  if s.holdAllowed b entrance then
    some (s.censusChange [(b, { s.bay b with hold := some ⟨ticket, entrance, s.site.holdTicks⟩ })])
  else none

/-- A bay's hold ended in any of the four ways (R15). -/
def State.endHold (s : State) (b : Nat) : State := s.censusChange [(b, { s.bay b with hold := none })]

/-! ## Host transactions (R179 to R182) -/

/-- An owner's answer to a request (R181): DONE with a payload when the reason is DONE, REFUSED otherwise. -/
structure OwnerAnswer where
  reason : Reason
  payload : List Byte
  deriving DecidableEq, Repr

/-- Carried out, with no payload. -/
def doneEmpty : OwnerAnswer := ⟨.done, []⟩

/-- The response placed: the owner's state with the response in the buffer, the idle bytes driven during the transaction,
and the pins that follow (R180, R182). -/
def State.answered (s : State) (clocked code : Nat) (reason : Reason) (payload : List Byte) : State :=
  State.withOutputs { s with buffer := some ⟨code, reason, payload, false⟩, miso := List.replicate clocked idleByte }

/-- A request transaction that ends while the buffer holds response `r`: lost, with the OVERRUN mark set (R182), and the data
output released (R179). -/
def State.overrun (s : State) (clocked : Nat) (r : Response) : State :=
  { s with buffer := some { r with overrun := true }, miso := List.replicate clocked idleByte,
           out := { s.out with misoDriven := false } }

/-- A host transaction at its end (R185): ignored unless the part is running, ignored too when it began before the start-up
time had passed, and otherwise served. -/
def State.serve (s : State) (serving : State → State) : State :=
  match s.phase with
  | .held => s
  | .startUp => s
  | .running => if s.ignoring then { s with ignoring := false } else serving s

/-- A request taken or lost as a transaction of `clocked` bytes with request code `code` (R180, R182, R185): an overrun while
the buffer holds a response, and otherwise handed to its owner, whose answer is placed. -/
def State.transaction (s : State) (clocked code : Nat) (owner : State → State × OwnerAnswer) : State :=
  s.serve fun s =>
    match s.buffer with
    | some r => s.overrun clocked r
    | none => (owner s).1.answered clocked code (owner s).2.reason (owner s).2.payload

/-- A host request as a command: a frame of five bytes and its parameters (R186). -/
def request (c : Instr) (s : State) (owner : State → State × OwnerAnswer) : Host.Outcome State Fault Refusal :=
  match c.request with
  | some (code, params) => .next (s.transaction (5 + params.length) code owner)
  | none => .next s

/-- A refusal: the state is unchanged (R181). -/
def refuse (s : State) (r : Reason) : State × OwnerAnswer := (s, ⟨r, []⟩)

/-- Carried out with a payload. -/
def done (s : State) (payload : List Byte) : State × OwnerAnswer := (s, ⟨.done, payload⟩)

/-- An event as a command: nothing happens while RESET is held (R185); otherwise the event's effect, and the output pins
follow it. -/
def event (s : State) (effect : State → State) : Host.Outcome State Fault Refusal :=
  if s.phase = .held then .next s else .next (effect s).withOutputs

end Sys2Proof.Machine
end

