-- ==== Sys2Proof/Machine/Bindings.lean ====
section
/-! DEFINITION. The binding requests (03_layout_editing_and_bindings.md, sections 3.4 to 3.6): nodes, gas slots and fan
stages. -/

namespace Sys2Proof.Machine

/-! ## Nodes -/

/-- The kind and binding that NODE_BIND carries, with a ROW node's light set still to be computed; none when a value is out
of range (R54, R190). -/
def serviceOf (kind b1 b2 : Nat) : Option Service :=
  match NodeKind.ofCode kind with
  | some .row => if rowInRange b1 && within 1 16 b2 then some (.row b1 b2 ⟨[], 0, none⟩) else none
  | some .gas => some .gas
  | some .fan => some .fan
  | some .sign => some .sign
  | some .entry => if decide (b1 < Config.entranceCount) then some (.entry b1 .ready) else none
  | none => none

/-- The binding with the node's first output content: the light set of a ROW node (R54, R160). -/
def State.withLights (s : State) (v : Service) : Service :=
  match v with
  | .row r n _ => .row r n (s.lightsOf r n none)
  | .none => .none
  | .gas => .gas
  | .fan => .fan
  | .sign => .sign
  | .entry e a => .entry e a

/-- Whether two bindings name one row, or one entrance (R54). -/
def Service.sharesBinding (v w : Service) : Bool :=
  match v, w with
  | .row r _ _, .row r' _ _ => decide (r = r')
  | .entry e _, .entry e' _ => decide (e = e')
  | _, _ => false

/-- Whether a node not OFF binds the row or entrance that `v` names (R54). -/
def State.bindingTaken (s : State) (v : Service) : Bool :=
  s.nodes.any fun e => decide (e.2.state ≠ .off) && e.2.service.sharesBinding v

/-- A node record as NODE_BIND makes it (R54). -/
def boundNode (v : Service) : Node :=
  { service := v, state := .live, misses := 0, toggle := .any, marker := .none, outputPending := true }

/-- A line with its first node bound (R64). -/
def Line.begun (l : Line) : Line :=
  if l.state = .idle then { l with state := .scanning, scan := 0, breakMeasure := 0 } else l

/-- NODE_BIND (R54). -/
def execNodeBind (line address kind b1 b2 : Nat) (s : State) : Host.Outcome State Fault Refusal :=
  request (.nodeBind line address kind b1 b2) s fun s =>
    if nodeInRange line address = false then refuse s .range
    else
      match serviceOf kind b1 b2 with
      | none => refuse s .range
      | some v =>
        if (s.node ⟨line, address⟩).state ≠ .off ∨ s.bindingTaken v = true then refuse s .conflict
        else
          ((s.setNode ⟨line, address⟩ (boundNode (s.withLights v))).setLine line (s.line line).begun, doneEmpty)

/-- Whether a GAS node is named by a slot, a FAN node by a stage, or a SIGN node by a sign (R55). -/
def State.nodeNamed (s : State) (id : NodeId) : Bool :=
  (zoneNumbers.any fun z => (s.zone z).hasSlotOf id || (s.zone z).hasStageOf id)
    || (signNumbers.any fun i => decide ((s.sign i).node = some id))

/-- Whether some record of line `l` is not OFF. -/
def State.lineHasNodes (s : State) (l : Nat) : Bool :=
  s.nodes.any fun e => decide (e.1 / 64 = l) && decide (e.2.state ≠ .off)

/-- A line gone IDLE: the visit abandoned, the probe timer and a watch stopped (R64, R83; log entry 20). -/
def Line.stopped (l : Line) : Line :=
  { l with state := .idle, visit := none, de := false, breakMeasure := 0, probe := none, watch := false }

/-- A line whose visit, if one is in flight to address `a`, has had its record retired (R55, R75). -/
def Line.retiring (a : Nat) (l : Line) : Line :=
  { l with visit := l.visit.map fun v => if v.address = a then { v with retired := true } else v }

/-- A node record set OFF, with its row darkened when it was of kind ROW (R55). -/
def State.withoutNode (s : State) (id : NodeId) : State :=
  let s' := s.setNode id Node.powerOn
  match (s.node id).service with
  | .row r _ _ => s'.darkenRow r
  | .none => s'
  | .gas => s'
  | .fan => s'
  | .sign => s'
  | .entry _ _ => s'

/-- The line IDLE when its last node has gone OFF (R64). -/
def State.reviewLine (s : State) (l : Nat) : State :=
  if s.lineHasNodes l then s else s.setLine l (s.line l).stopped

/-- NODE_RETIRE (R55). -/
def execNodeRetire (line address : Nat) (s : State) : Host.Outcome State Fault Refusal :=
  request (.nodeRetire line address) s fun s =>
    if nodeInRange line address = false then refuse s .range
    else if (s.node ⟨line, address⟩).state = .off ∨ s.nodeNamed ⟨line, address⟩ = true then refuse s .state
    else
      (((s.withoutNode ⟨line, address⟩).setLine line ((s.line line).retiring address)).reviewLine line, doneEmpty)

/-- The kinds NODE_BAR applies to (R56). -/
def Service.barrable : Service → Bool
  | .row _ _ _ => true
  | .gas => true
  | .entry _ _ => true
  | .none => false
  | .fan => false
  | .sign => false

/-- NODE_BAR (R56). -/
def execNodeBar (line address : Nat) (s : State) : Host.Outcome State Fault Refusal :=
  request (.nodeBar line address) s fun s =>
    if nodeInRange line address = false then refuse s .range
    else if (s.node ⟨line, address⟩).state = .off ∨ (s.node ⟨line, address⟩).service.barrable = false then refuse s .state
    else if (s.node ⟨line, address⟩).state = .barred then (s, doneEmpty)
    else
      ((s.setNode ⟨line, address⟩ { s.node ⟨line, address⟩ with state := .barred }).barEffects ⟨line, address⟩, doneEmpty)

/-- A node record as NODE_UNBAR leaves it, on a line in the given state (R57, R80). -/
def Node.unbarred (lineState : LineState) (n : Node) : Node :=
  { n with state := if lineState = .fault then .silent else .live, misses := 0, toggle := .any, marker := .none,
           outputPending := true }

/-- NODE_UNBAR (R57). -/
def execNodeUnbar (line address : Nat) (s : State) : Host.Outcome State Fault Refusal :=
  request (.nodeUnbar line address) s fun s =>
    if nodeInRange line address = false then refuse s .range
    else if (s.node ⟨line, address⟩).state ≠ .barred then refuse s .state
    else (s.setNode ⟨line, address⟩ ((s.node ⟨line, address⟩).unbarred (s.line line).state), doneEmpty)

/-! ## Gas slots -/

/-- Whether a slot of some zone binds this node and channel (R58). -/
def State.channelTaken (s : State) (id : NodeId) (channel : Nat) : Bool :=
  zoneNumbers.any fun z => (s.zone z).slots.any fun g => decide (g.node = id) && decide (g.channel = channel)

/-- A slot as ZONE_SLOT binds it: stale, with n 0 and no age timer (R58). -/
def boundSlot (id : NodeId) (channel ref : Nat) : Slot :=
  { node := id, channel := channel, ref := ref, n := 0, fresh := false, age := 0 }

/-- ZONE_SLOT asking to bind (R58). -/
def execZoneSlotBind (form zone line address channel ref : Nat) (s : State) : Host.Outcome State Fault Refusal :=
  request (.zoneSlotBind form zone line address channel ref) s fun s =>
    if (decide (form = 0) && zoneInRange zone && nodeInRange line address && decide (channel ≤ 1) && within 1 4095 ref)
        = false then
      refuse s .range
    else if (s.zone zone).inUse = false then refuse s .state
    else if (s.node ⟨line, address⟩).state = .off ∨ (s.node ⟨line, address⟩).service ≠ .gas then refuse s .state
    else if 4 ≤ (s.zone zone).slots.length then refuse s .state
    else if s.channelTaken ⟨line, address⟩ channel then refuse s .conflict
    else
      done
        (s.changeZone zone ((s.zone zone).withSlots ((s.zone zone).slots ++ [boundSlot ⟨line, address⟩ channel ref])))
        [u8 ((s.zone zone).slots.length + 1)]

/-- ZONE_SLOT asking to unbind (R59). -/
def execZoneSlotUnbind (form zone slot : Nat) (s : State) : Host.Outcome State Fault Refusal :=
  request (.zoneSlotUnbind form zone slot) s fun s =>
    if (decide (form = 1) && zoneInRange zone && within 1 4 slot) = false then refuse s .range
    else if (s.zone zone).inUse = false ∨ (s.zone zone).slots.length < slot then refuse s .state
    else (s.changeZone zone ((s.zone zone).withSlots (removeAt (s.zone zone).slots (slot - 1))), doneEmpty)

/-! ## Fan stages -/

/-- Whether a stage of some zone binds this node (R60). -/
def State.fanTaken (s : State) (id : NodeId) : Bool := zoneNumbers.any fun z => (s.zone z).hasStageOf id

/-- A stage as ZONE_STAGE binds it (R60). -/
def boundStage (id : NodeId) : Stage := { node := id, status := .idle, cause := none, proof := 0, rundown := 0 }

/-- A zone record with another stage list: the figures recomputed with the new N, and the sequencer told (R60, R61, R120). -/
def Zone.withStages (z : Zone) (stages : List Stage) : Zone := ({ z with stages := stages }).figures.tellSequencer

/-- ZONE_STAGE asking to bind (R60). -/
def execZoneStageBind (form zone line address : Nat) (s : State) : Host.Outcome State Fault Refusal :=
  request (.zoneStageBind form zone line address) s fun s =>
    if (decide (form = 0) && zoneInRange zone && nodeInRange line address) = false then refuse s .range
    else if (s.zone zone).inUse = false then refuse s .state
    else if (s.zone zone).seq ≠ .idle then refuse s .state
    else if (s.node ⟨line, address⟩).state = .off ∨ (s.node ⟨line, address⟩).service ≠ .fan then refuse s .state
    else if 4 ≤ (s.zone zone).stages.length then refuse s .state
    else if s.fanTaken ⟨line, address⟩ then refuse s .conflict
    else
      done
        ((s.changeZone zone ((s.zone zone).withStages ((s.zone zone).stages ++ [boundStage ⟨line, address⟩]))).markOutput
          ⟨line, address⟩)
        [u8 ((s.zone zone).stages.length + 1)]

/-- A status in which a stage can be unbound (R61). -/
def StageStatus.atRest : StageStatus → Bool
  | .idle => true
  | .faulted => true
  | .starting => false
  | .running => false
  | .stopping => false

/-- ZONE_STAGE asking to unbind (R61). -/
def execZoneStageUnbind (form zone stage : Nat) (s : State) : Host.Outcome State Fault Refusal :=
  request (.zoneStageUnbind form zone stage) s fun s =>
    if (decide (form = 1) && zoneInRange zone && within 1 4 stage) = false then refuse s .range
    else if (s.zone zone).inUse = false ∨ (s.zone zone).stages.length < stage ∨ (s.zone zone).seq ≠ .idle
        ∨ ((s.zone zone).statusAt (stage - 1)).atRest = false then
      refuse s .state
    else (s.changeZone zone ((s.zone zone).withStages (removeAt (s.zone zone).stages (stage - 1))), doneEmpty)

end Sys2Proof.Machine
end

