-- ==== Sys2Proof/Machine/Census.lean ====
section
/-! DEFINITION. The census unit's commands: the requests that read, close and open a bay and release a hold
(01_bays_and_the_census.md, section 1.6), the three timer expiries of a bay (R6, R7, R12), and the row report as it changes
the bay table (R4, R5, R13). -/

namespace Sys2Proof.Machine

/-! ## Row reports (R4, R5) -/

/-- A bay after a presence bit of an applied row report (R5, R13). -/
def Bay.reported (site : SiteParams) (present : Bool) (b : Bay) : Bay :=
  match b.census with
  | .vacant =>
    if present then { b with census := .arriving, stateTimer := site.settleTicks, hold := none } else b
  | .arriving => if present then b else { b with census := .leaving, stateTimer := site.departTicks }
  | .parked => if present then b else { b with census := .leaving, stateTimer := site.departTicks }
  | .leaving => if present then { b with census := .arriving, stateTimer := site.settleTicks } else b
  | .dark => if present then { b with census := .parked, hold := none } else { b with census := .vacant }

/-- The bays of row `r` that a report with these presence bits changes, for a node with bay count `n` (R4): every reported
bay whose record the report moves, with its new record. -/
def State.reportedChanges (s : State) (r n : Nat) (presence : BitVec 16) : List (Nat × Bay) :=
  ((List.range n).filter fun i =>
      decide ((s.bay (16 * r + i)).cls ≠ .retired)
        && decide ((s.bay (16 * r + i)).reported s.site (presence.getLsbD i) ≠ s.bay (16 * r + i))).map
    fun i => (16 * r + i, (s.bay (16 * r + i)).reported s.site (presence.getLsbD i))

/-- The census unit's part of an applied row report, as one change of the bay table (R4). -/
def State.censusReport (s : State) (r n : Nat) (presence : BitVec 16) : State :=
  s.censusChange (s.reportedChanges r n presence)

/-! ## Requests -/

/-- GET_BAY (R21, R189). -/
def execGetBay (bay : Nat) (s : State) : Host.Outcome State Fault Refusal :=
  request (.getBay bay) s fun s =>
    if bayInRange bay then done s (u16 bay ++ bayBytes (s.bay bay) (s.offered (s.bay bay))) else refuse s .range

/-- The GET_ROW payload (R189). -/
def State.rowPayload (s : State) (row : Nat) : List Byte :=
  u8 row :: (rowBays row).flatMap fun b => bayBytes (s.bay b) (s.offered (s.bay b))

/-- GET_ROW (R22, R189). -/
def execGetRow (row : Nat) (s : State) : Host.Outcome State Fault Refusal :=
  request (.getRow row) s fun s => if rowInRange row then done s (s.rowPayload row) else refuse s .range

/-- The closed flag of a bay set or cleared (R23). -/
def State.closeBay (s : State) (bay : Nat) (closed : Bool) : State × OwnerAnswer :=
  if bayInRange bay = false then refuse s .range
  else if (s.bay bay).cls = .retired then refuse s .state
  else if (s.bay bay).closed = closed then (s, doneEmpty)
  else (s.censusChange [(bay, { s.bay bay with closed := closed })], doneEmpty)

/-- BAY_CLOSE (R23). -/
def execBayClose (bay : Nat) (s : State) : Host.Outcome State Fault Refusal :=
  request (.bayClose bay) s fun s => s.closeBay bay true

/-- BAY_OPEN (R23). -/
def execBayOpen (bay : Nat) (s : State) : Host.Outcome State Fault Refusal :=
  request (.bayOpen bay) s fun s => s.closeBay bay false

/-- HOLD_RELEASE (R24). -/
def execHoldRelease (bay : Nat) (s : State) : Host.Outcome State Fault Refusal :=
  request (.holdRelease bay) s fun s =>
    if bayInRange bay = false then refuse s .range
    else if (s.bay bay).hold.isNone then refuse s .state
    else (s.endHold bay, doneEmpty)

/-! ## Timer expiries -/

/-- SETTLE_TIMER_EXPIRY (R6). -/
def execSettleTimerExpiry (bay : Nat) (s : State) : Host.Outcome State Fault Refusal :=
  event s fun s =>
    if (s.bay bay).census = .arriving ∧ (s.bay bay).stateTimer = 0 then
      s.censusChange [(bay, { s.bay bay with census := .parked, stateTimer := 0 })]
    else s

/-- DEPART_TIMER_EXPIRY (R7). -/
def execDepartTimerExpiry (bay : Nat) (s : State) : Host.Outcome State Fault Refusal :=
  event s fun s =>
    if (s.bay bay).census = .leaving ∧ (s.bay bay).stateTimer = 0 then
      s.censusChange [(bay, { s.bay bay with census := .vacant, stateTimer := 0 })]
    else s

/-- Whether a bay's hold has reached the end of its timer (R12). -/
def Bay.holdDue (b : Bay) : Bool :=
  match b.hold with
  | some h => decide (h.timer = 0)
  | none => false

/-- HOLD_TIMER_EXPIRY: the hold lapses and HOLD_LAPSED is raised in the bay's zone (R12). -/
def execHoldTimerExpiry (bay : Nat) (s : State) : Host.Outcome State Fault Refusal :=
  event s fun s => if (s.bay bay).holdDue then (s.endHold bay).raiseZone .holdLapsed (s.bay bay).zone else s

end Sys2Proof.Machine
end

