-- ==== Sys2Proof/Machine/Events.lean ====
section
/-! DEFINITION. The event unit's requests (10_events_and_the_attention_line.md): EVENTS_TAKE (R174) and EVENTS_SUMMARY (R175). -/

namespace Sys2Proof.Machine

/-- The members of pending set `n`: a zone's for 0 to 31, SITE's for 32 (R171). -/
def State.membersOf (s : State) (n : Nat) : EventSet :=
  if n < Config.zoneCount then (s.zone n).pending else s.sitePending

/-- The kinds of pending set `n` (R171). -/
def kindsOf (n : Nat) : EventSet := if n < Config.zoneCount then zoneKinds else siteKinds

/-- Pending set `n` without the members that `clear` names (R174). -/
def State.clearMembers (s : State) (n : Nat) (clear : EventSet) : State :=
  if n < Config.zoneCount then s.setZone n { s.zone n with pending := (s.zone n).pending &&& ~~~clear }
  else { s with sitePending := s.sitePending &&& ~~~clear }

/-- EVENTS_TAKE (R174). -/
def execEventsTake (set : Nat) (clear : EventSet) (s : State) : Host.Outcome State Fault Refusal :=
  request (.eventsTake set clear) s fun s =>
    if decide (set ≤ 32) && onlyKindsOf (kindsOf set) clear then
      done (s.clearMembers set clear) (u8 set :: maskBytes (s.membersOf set))
    else refuse s .range

/-- The numbers of the non-empty sets, ascending, SITE last (R175). -/
def State.nonEmptySets (s : State) : List Nat := (List.range 33).filter fun n => decide (s.membersOf n ≠ 0#16)

/-- EVENTS_SUMMARY (R175). -/
def execEventsSummary (s : State) : Host.Outcome State Fault Refusal :=
  request .eventsSummary s fun s => done s (u8 s.nonEmptySets.length :: s.nonEmptySets.map u8)

end Sys2Proof.Machine
end

