-- ==== Sys2Proof/Machine/Fume.lean ====
section
/-! DEFINITION. The fume unit's event (05_fume_measurement.md): the age timer of a gas slot expires (R94). The update by a gas
report is in FumeIndex and Lines. -/

namespace Sys2Proof.Machine

/-- Whether the slot at place `i` is fresh with its age timer at 0 (R94). -/
def Zone.slotDue (z : Zone) (i : Nat) : Bool :=
  match z.slots[i]? with
  | some g => g.fresh && decide (g.age = 0)
  | none => false

/-- The zone record after the slot at place `i` goes stale (R94). -/
def Zone.ageOut (z : Zone) (i : Nat) : Zone := z.withSlots (changeAt Slot.goStale z.slots i)

/-- AGE_TIMER_EXPIRY of slot number `slot` (R94). -/
def execAgeTimerExpiry (zone slot : Nat) (s : State) : Host.Outcome State Fault Refusal :=
  event s fun s =>
    if 1 ≤ slot ∧ (s.zone zone).slotDue (slot - 1) = true then s.changeZone zone ((s.zone zone).ageOut (slot - 1)) else s

end Sys2Proof.Machine
end

