-- ==== Sys2Proof/Machine/Guidance.lean ====
section
/-! DEFINITION. The guidance unit's commands and entry reports (07_guidance_and_holds.md, 08_free_space_signs.md): the request
of an entry terminal (R134 to R137), the host's hold requests (R145, R146) and the sign requests (R154 to R156). -/

namespace Sys2Proof.Machine

/-! ## Entry reports (R134 to R137) -/

/-- The lowest-numbered bay that carries a hold with this ticket and entrance (R135). -/
def State.heldBay (s : State) (ticket entrance : Nat) : Option Nat :=
  (Table.keys s.bays).find? fun b =>
    match (s.bay b).hold with
    | some h => decide (h.ticket = ticket) && decide (h.entrance = entrance)
    | none => false

/-- The answer record of an ENTRY node of entrance `e` changed, with its node marked (R133). -/
def State.setAnswer (s : State) (id : NodeId) (e : Nat) (a : Answer) : State :=
  s.setNode id { s.node id with service := .entry e a, outputPending := true }

/-- A request taken in READY: re-offer, selection or full (R135). -/
def State.takeRequest (s : State) (id : NodeId) (e : Nat) (c : BayClass) (ticket : Nat) : State :=
  match s.heldBay ticket e with
  | some b => s.setAnswer id e (.offer ticket b (s.bay b).zone)
  | none =>
    match s.selection e c with
    | none => s.setAnswer id e (.full ticket)
    | some b =>
      match s.placeHold b ticket e with
      | some s' => s'.setAnswer id e (.offer ticket b (s.bay b).zone)
      | none => s.setAnswer id e (.full ticket)

/-- Whether a report is answered busy: a request without the acknowledgement reaches an open answer (R134, R136). -/
def Answer.busyFor (a : Answer) (acknowledged : Bool) (request : Option (BayClass × Nat)) : Bool :=
  decide (a ≠ .ready) && !acknowledged && request.isSome

/-- An applied entry report: the acknowledgement flag first, the request second (R134). -/
def State.entryReport (s : State) (id : NodeId) (e : Nat) (a : Answer) (acknowledged : Bool)
    (request : Option (BayClass × Nat)) : State :=
  if a.busyFor acknowledged request then s
  else
    match request with
    | some (c, ticket) => s.takeRequest id e c ticket
    | none => if a ≠ .ready ∧ acknowledged = true then s.setAnswer id e .ready else s

/-! ## Holds placed by the host (R145, R146) -/

/-- The response of a hold placed on bay `b`: the bay, its zone, that zone's level and the hold timer set (R145, R191). -/
def State.holdPayload (s : State) (b : Nat) : List Byte :=
  u16 b ++ [u8 (s.bay b).zone, u8 (s.zone (s.bay b).zone).cfg.level] ++ u16 s.site.holdTicks

/-- HOLD_PLACE by bay (R145). -/
def execHoldPlaceByBay (bay ticket : Nat) (s : State) : Host.Outcome State Fault Refusal :=
  request (.holdPlaceByBay bay ticket) s fun s =>
    if (bayInRange bay && decide (ticket ≤ 65535)) = false then refuse s .range
    else
      match s.placeHold bay ticket Config.hostEntrance with
      | some s' => done s' (s.holdPayload bay)
      | none => refuse s .state

/-- The class a HOLD_PLACE best names; none when it is no offerable class (R146). -/
def offerableOfCode (code : Nat) : Option BayClass :=
  match BayClass.ofCode code with
  | some c => if c.offerable then some c else none
  | none => none

/-- HOLD_PLACE best (R146). -/
def execHoldPlaceBest (entrance cls ticket : Nat) (s : State) : Host.Outcome State Fault Refusal :=
  request (.holdPlaceBest entrance cls ticket) s fun s =>
    match offerableOfCode cls with
    | none => refuse s .range
    | some c =>
      if (decide (entrance < Config.entranceCount) && decide (ticket ≤ 65535)) = false then refuse s .range
      else
        match s.selection entrance c with
        | none => refuse s .noBay
        | some b =>
          match s.placeHold b ticket Config.hostEntrance with
          | some s' => done s' (s.holdPayload b)
          | none => refuse s .noBay

/-! ## Signs (R152 to R156) -/

/-- The SIGN command payload of a sign record (R152, R188). That the bits of the mark byte beside the FULL mark are 0 is the
model's choice (log entry 32). -/
def Sign.payload (g : Sign) : List Byte :=
  match g.mode with
  | .off => [u8 0]
  | .count => u8 1 :: u16 g.value ++ [u8 (flagCode (decide (g.value = 0)))]
  | .text => u8 2 :: u8 g.text.length :: g.text

/-- The sign that names node `id`, if one does (R65, R149). -/
def State.signOf (s : State) (id : NodeId) : Option Nat := signNumbers.find? fun i => decide ((s.sign i).node = some id)

/-- The node bytes of SIGN_SET: address 0 means none (R190). -/
def signNode (line address : Nat) : Option NodeId := if address = 0 then none else some ⟨line, address⟩

/-- A character code of a sign's text (R149). -/
def textChar (b : Byte) : Bool := within 32 126 b.toNat

/-- The first check of SIGN_SET for what is not an enumeration: sign number, node and text (R154). Every bit of the zone set
names a zone from 0 to 31. -/
def signRange (sign line address : Nat) (text : List Byte) : Bool :=
  decide (sign < Config.signCount) && (decide (address = 0) || nodeInRange line address) && decide (text.length ≤ 16)
    && text.all textChar

/-- The second check of SIGN_SET: the node, when given, has a record of kind SIGN that is not OFF (R154). -/
def State.signNodeBound (s : State) (node : Option NodeId) : Bool :=
  match node with
  | some id => decide ((s.node id).state ≠ .off) && decide ((s.node id).service = .sign)
  | none => true

/-- The last check of SIGN_SET: the node, when given, is named by no other sign (R154). -/
def State.signNodeFree (s : State) (sign : Nat) (node : Option NodeId) : Bool :=
  match node with
  | some id => signNumbers.all fun i => decide (i = sign) || decide ((s.sign i).node ≠ some id)
  | none => true

/-- A sign record written whole, its value recomputed, and the nodes before and after marked (R155). -/
def State.writeSign (s : State) (sign : Nat) (g : Sign) : State :=
  ((s.setSign sign { g with value := s.signCount g.zones g.filter }).markSignNode (s.sign sign).node).markSignNode g.node

/-- SIGN_SET (R154, R155). -/
def execSignSet (sign line address mode : Nat) (zones : ZoneSet) (filter : Nat) (text : List Byte) (s : State) :
    Host.Outcome State Fault Refusal :=
  request (.signSet sign line address mode zones filter text) s fun s =>
    match SignMode.ofCode mode, ClassFilter.ofCode filter with
    | some m, some f =>
      if signRange sign line address text = false then refuse s .range
      else if s.signNodeBound (signNode line address) = false then refuse s .state
      else if ((zonesOf zones).all fun z => (s.zone z).inUse) = false then refuse s .state
      else if s.signNodeFree sign (signNode line address) = false then refuse s .conflict
      else
        done
          (s.writeSign sign
            { node := signNode line address, mode := m, zones := zones, filter := f, text := text, value := 0 })
          (u16 (s.signCount zones f))
    | some _, none => refuse s .range
    | none, some _ => refuse s .range
    | none, none => refuse s .range

/-- The last part of a GET_SIGN response: the state and output pending mark of the node the sign names (R156, R191). That the
other bits of the mark's byte are 0 is the model's choice (log entry 32). -/
def State.signNodeBytes (s : State) (node : Option NodeId) : List Byte :=
  match node with
  | some id => [u8 (s.node id).state.code, u8 (flagCode (s.node id).outputPending)]
  | none => []

/-- The GET_SIGN payload (R156, R191). R152 derives content for a named node only: that a sign which names no node returns
the content its own mode gives is the model's choice (log entry 28). -/
def State.signPayload (s : State) (sign : Nat) : List Byte :=
  let g := s.sign sign
  u8 sign :: nodeBytes g.node ++ [u8 g.mode.code] ++ zoneSetBytes g.zones ++ [u8 g.filter.code]
    ++ u8 g.text.length :: g.text ++ u16 g.value ++ g.payload ++ s.signNodeBytes g.node

/-- GET_SIGN (R156). -/
def execGetSign (sign : Nat) (s : State) : Host.Outcome State Fault Refusal :=
  request (.getSign sign) s fun s => if decide (sign < Config.signCount) then done s (s.signPayload sign) else refuse s .range

end Sys2Proof.Machine
end

