-- ==== Sys2Proof/Machine/HostLink.lean ====
section
/-! DEFINITION. The host link and the whole part (11_the_host_link.md): transactions that name no request (R180), the read
transaction (R183), CLEAR (R184), RESET and start-up (R185), and the tick at which every timer counts down. -/

namespace Sys2Proof.Machine

/-! ## Transactions (R179 to R183) -/

/-- UNKNOWN_REQUEST: refused with UNKNOWN, or lost as an overrun (R180, R182). -/
def execUnknownRequest (code : Nat) (params : List Byte) (s : State) : Host.Outcome State Fault Refusal :=
  request (.unknownRequest code params) s fun s => refuse s .unknown

/-- The bytes driven in a read transaction of `clocked` bytes: idle, the frame, idle (R179). -/
def readBytes (frame : List Byte) (clocked : Nat) : List Byte :=
  (List.range clocked).map fun i => if i = 0 then idleByte else frame.getD (i - 1) idleByte

/-- A read transaction of a running part (R183). -/
def State.readOut (s : State) (clocked : Nat) : State :=
  match s.buffer with
  | some r =>
    { s with buffer := if 1 + r.frame.length ≤ clocked then none else some r, miso := readBytes r.frame clocked }
  | none => { s with miso := readBytes emptyFrame clocked }

/-- A read transaction of `clocked` bytes (R183, R185). With no whole byte clocked nothing changes (R179). -/
def State.readTransaction (s : State) (clocked : Nat) : State :=
  if clocked = 0 then s else s.serve fun s => (s.readOut clocked).withOutputs

/-- READ (R183). -/
def execRead (clocked : Nat) (s : State) : Host.Outcome State Fault Refusal := .next (s.readTransaction clocked)

/-- MALFORMED_REQUEST: refused with FRAME, echoing the second byte received, or 0 when there is none (R180, R181); or lost as
an overrun (R182). A transaction of no whole byte is ignored, and one whose first byte is READ is a read whatever follows
(R179). -/
def execMalformedRequest (bytes : List Byte) (s : State) : Host.Outcome State Fault Refusal :=
  match bytes with
  | [] => .next s
  | first :: rest =>
    if first = readByte then .next (s.readTransaction (1 + rest.length))
    else .next (s.transaction (1 + rest.length) (byteAt rest 0) fun s => refuse s .frame)

/-! ## CLEAR (R184) -/

/-- A bay after CLEAR (R26). -/
def Bay.cleared (b : Bay) : Bay :=
  if b.cls = .retired then b else { b with census := .dark, stateTimer := 0, hold := none }

/-- The state of a node after CLEAR: BARRED and OFF are kept, LIVE and SILENT become LIVE (R66, R90). -/
def NodeState.cleared : NodeState → NodeState
  | .off => .off
  | .live => .live
  | .silent => .live
  | .barred => .barred

/-- A binding after CLEAR: an answer record READY, an aisle timer stopped (R148, R170). -/
def Service.cleared : Service → Service
  | .row r n lights => .row r n { lights with timer := Option.none }
  | .entry e _ => .entry e .ready
  | .none => .none
  | .gas => .gas
  | .fan => .fan
  | .sign => .sign

/-- A node record after CLEAR (R90). -/
def Node.cleared (n : Node) : Node :=
  if n.state = .off then n
  else
    { service := n.service.cleared, state := n.state.cleared, misses := if n.state = .barred then n.misses else 0,
      toggle := .any, marker := .none, outputPending := true }

/-- A zone record after CLEAR, with its tallies counted afresh: every slot stale, I and the blind condition re-evaluated, and
the demand part recomputed from the moved inputs (R26, R108, R130). -/
def Zone.cleared (z : Zone) (t : Tallies) : Zone :=
  ({ z with tallies := t, slots := z.slots.map Slot.goStale } : Zone).reviewBlind.reviewI.demandChange false

/-- A zone record with its pending set emptied (R178). -/
def Zone.emptied (z : Zone) : Zone := { z with pending := 0#16 }

/-- CLEAR's effects on every record, the emptying of the pending sets last (R184). -/
def State.cleared (s : State) : State :=
  let s1 : State :=
    { s with edit := none, bays := Table.map Bay.powerOn Bay.cleared s.bays,
             nodes := Table.map Node.powerOn Node.cleared s.nodes }
  let s2 := zoneNumbers.foldl (fun s z => s.putZone z ((s.zone z).cleared (s.tallyOf z))) s1
  let s3 := (signNumbers.foldl State.recomputeSign s2).allLights
  { s3 with zones := Table.map Zone.powerOn Zone.emptied s3.zones, sitePending := 0#16 }

/-- CLEAR (R184). -/
def execClear (s : State) : Host.Outcome State Fault Refusal := request .clear s fun s => (s.cleared, doneEmpty)

/-! ## RESET and start-up (R185) -/

/-- The level of the receive inputs, which belong to the outside and are kept through RESET (log entry 7). -/
def Line.inputOnly (l : Line) : Line := { Line.powerOn with rxBreak := l.rxBreak }

/-- Every record at its power-on value (R185). What is kept are the inputs, the commands that wait and the model's counter of
free choices. -/
def State.poweredOn (s : State) (phase : Phase) : State :=
  { State.reset with phase := phase, lines := Table.map Line.powerOn Line.inputOnly s.lines, choices := s.choices,
                     pending := s.pending }

/-- RESET_ASSERT: the part is held in its power-on state (R185). -/
def execResetAssert (s : State) : Host.Outcome State Fault Refusal := .next (s.poweredOn .held)

/-- RESET_RELEASE, or the supply coming up: the part runs from its power-on state (R185; log entry 12). -/
def execResetRelease (s : State) : Host.Outcome State Fault Refusal := .next (s.poweredOn .startUp)

/-- START_UP_END: host transactions are taken from now on, but for one that is in progress, which began before and is ignored
at its end (R185). Whether one is in progress is a free value (log entry 3). -/
def execStartUpEnd (s : State) : Host.Outcome State Fault Refusal :=
  if s.phase = .startUp then
    .next { s with phase := .running, ignoring := Config.transactionBegun s.choices, choices := s.choices + 1 }
  else .next s

/-! ## The tick -/

/-- A bay's timers after a tick (R6, R7, R12). -/
def Bay.ticked (b : Bay) : Bay :=
  { b with
    stateTimer := match b.census with
      | .arriving => b.stateTimer - 1
      | .leaving => b.stateTimer - 1
      | .vacant => b.stateTimer
      | .parked => b.stateTimer
      | .dark => b.stateTimer
    hold := b.hold.map fun h => { h with timer := h.timer - 1 } }

/-- A slot's age timer after a tick: it runs while the slot is fresh (R94). -/
def Slot.ticked (g : Slot) : Slot := if g.fresh then { g with age := g.age - 1 } else g

/-- A stage's timers after a tick: the proof timer runs in STARTING, the rundown timer in STOPPING (R117). -/
def Stage.ticked (g : Stage) : Stage :=
  match g.status with
  | .starting => { g with proof := g.proof - 1 }
  | .stopping => { g with rundown := g.rundown - 1 }
  | .idle => g
  | .running => g
  | .faulted => g

/-- A zone's timers after a tick (R94, R117, R124). -/
def Zone.ticked (z : Zone) : Zone :=
  { z with slots := z.slots.map Slot.ticked, stages := z.stages.map Stage.ticked,
           dwell := if z.seq = .dwell then z.dwell - 1 else z.dwell }

/-- A node's aisle timer after a tick (R164). -/
def Node.ticked (n : Node) : Node :=
  match n.service with
  | .row r k lights => { n with service := .row r k { lights with timer := lights.timer.map (· - 1) } }
  | .none => n
  | .gas => n
  | .fan => n
  | .sign => n
  | .entry _ _ => n

/-- A line's probe timer after a tick (R63, R82). -/
def Line.ticked (l : Line) : Line := { l with probe := l.probe.map (· - 1) }

/-- An edit's window timer after a tick (R44). -/
def Edit.ticked (e : Edit) : Edit := { e with window := e.window - 1 }

/-- Every running timer counted down by one, and the tick counted. A timer at 0 has run out and waits for its expiry (log
entry 5). -/
def State.ticked (s : State) : State :=
  { s with ticks := s.ticks + 1, bays := Table.map Bay.powerOn Bay.ticked s.bays,
           zones := Table.map Zone.powerOn Zone.ticked s.zones, nodes := Table.map Node.powerOn Node.ticked s.nodes,
           lines := Table.map Line.powerOn Line.ticked s.lines, edit := s.edit.map Edit.ticked }

/-- TICK (R6, R7, R12, R44, R82, R94, R117, R124, R164). -/
def execTick (s : State) : Host.Outcome State Fault Refusal := event s State.ticked

end Sys2Proof.Machine
end

