-- ==== Sys2Proof/Machine/Layout.lean ====
section
/-! DEFINITION. The row edit buffer and its commit (03_layout_editing_and_bindings.md, sections 3.1 and 3.2). -/

namespace Sys2Proof.Machine

/-- The layout part of a bay as an entry (R45). -/
def Bay.entry (b : Bay) : Entry := ⟨b.zone, b.cls, b.closed⟩

/-- The edit that EDIT_OPEN makes: the layout parts of the row, the start offset and a full window (R45). -/
def State.openedEdit (s : State) (row offset : Nat) : Edit :=
  { row := row, entries := (rowBays row).map fun b => (s.bay b).entry, cursor := offset, window := Config.windowTicks }

/-- EDIT_OPEN (R45). -/
def execEditOpen (row offset : Nat) (s : State) : Host.Outcome State Fault Refusal :=
  request (.editOpen row offset) s fun s =>
    if (rowInRange row && decide (offset < 16)) = false then refuse s .range
    else
      match s.edit with
      | some _ => refuse s .busy
      | none =>
        done { s with edit := some (s.openedEdit row offset) }
          ((s.openedEdit row offset).headBytes ++ (s.openedEdit row offset).entryBytes)

/-- The edit after an EDIT_PUT of entry `x`: written at the cursor, the cursor advanced, the window full again (R46). -/
def Edit.put (e : Edit) (x : Entry) : Edit :=
  { e with entries := changeAt (fun _ => x) e.entries e.cursor, cursor := e.cursor + 1, window := Config.windowTicks }

/-- The entry an EDIT_PUT carries; none when a value is out of range (R46). -/
def entryOf (zone cls closed : Nat) : Option Entry :=
  match BayClass.ofCode cls, closedOfCode closed with
  | some c, some f => if zoneInRange zone then some ⟨zone, c, f⟩ else none
  | some _, none => none
  | none, some _ => none
  | none, none => none

/-- Whether the zone an entry names allows it: the class is RETIRED or the zone is IN_USE (R46, R49). -/
def State.entryAllowed (s : State) (x : Entry) : Bool := decide (x.cls = .retired) || (s.zone x.zone).inUse

/-- EDIT_PUT (R46). -/
def execEditPut (zone cls closed : Nat) (s : State) : Host.Outcome State Fault Refusal :=
  request (.editPut zone cls closed) s fun s =>
    match s.edit with
    | none => refuse s .state
    | some e =>
      if e.cursor = Config.cursorEnd then refuse s .range
      else
        match entryOf zone cls closed with
        | none => refuse s .range
        | some x =>
          if s.entryAllowed x then done { s with edit := some (e.put x) } (e.put x).headBytes
          else refuse s .state

/-- A bay after a commit writes entry `x` into it (R50, R51). -/
def Bay.committed (x : Entry) (b : Bay) : Bay :=
  let b' : Bay := { b with zone := x.zone, cls := x.cls, closed := x.closed }
  if b.cls = .retired ∧ x.cls = .retired then b'
  else if b.cls = .retired ∨ x.cls = .retired then { b' with census := .dark, stateTimer := 0, hold := none }
  else b'

/-- Every bay of the row with its entry. -/
def Edit.pairs (e : Edit) : List (Nat × Entry) := (rowBays e.row).zip e.entries

/-- The bays that a commit changes, with their new records (R49, R50). -/
def State.commitChanges (s : State) (e : Edit) : List (Nat × Bay) :=
  (e.pairs.filter fun p => decide ((s.bay p.1).committed p.2 ≠ s.bay p.1)).map fun p => (p.1, (s.bay p.1).committed p.2)

/-- The number of bays whose layout part changes (R49). -/
def State.layoutChanges (s : State) (e : Edit) : Nat := e.pairs.countP fun p => decide ((s.bay p.1).entry ≠ p.2)

/-- The bays in service before and after that a commit moves to another zone, with that zone (R50, R52; log entry 23). -/
def State.movedBays (s : State) (e : Edit) : List (Nat × Nat) :=
  (e.pairs.filter fun p =>
    decide ((s.bay p.1).cls ≠ .retired) && decide (p.2.cls ≠ .retired) && decide ((s.bay p.1).zone ≠ p.2.zone)).map
    fun p => (p.1, p.2.zone)

/-- A node whose open OFFER names a moved bay: the offer names the new zone, and the content that differs is marked (R52). -/
def Node.reoffered (moved : List (Nat × Nat)) (n : Node) : Node :=
  match n.service with
  | .entry e (.offer ticket bay zone) =>
    match moved.find? fun p => decide (p.1 = bay) with
    | some p =>
      if p.2 = zone then n else { n with service := .entry e (.offer ticket bay p.2), outputPending := true }
    | none => n
  | .entry _ .ready => n
  | .entry _ (.full _) => n
  | .none => n
  | .row _ _ _ => n
  | .gas => n
  | .fan => n
  | .sign => n

/-- A commit carried out: one change of the bay table with its hand-overs, the row's light set, the open offers, and the
edit closed (R49 to R52). -/
def State.commit (s : State) (e : Edit) : State :=
  let s1 := (s.censusChange (s.commitChanges e)).lightsOfRows [e.row]
  { s1 with nodes := Table.map Node.powerOn (Node.reoffered (s.movedBays e)) s1.nodes, edit := none }

/-- EDIT_COMMIT (R49 to R52). A refusal with STATE of an open edit carries the lowest failing offset (R49, R181); that this
payload is the offset in one byte is the model's choice (log entry 30). -/
def execEditCommit (s : State) : Host.Outcome State Fault Refusal :=
  request .editCommit s fun s =>
    match s.edit with
    | none => refuse s .state
    | some e =>
      match firstPlace (fun x => !s.entryAllowed x) e.entries with
      | some i => (s, ⟨.state, [u8 i]⟩)
      | none => done (s.commit e) [u8 (s.layoutChanges e)]

/-- EDIT_DROP (R48). -/
def execEditDrop (s : State) : Host.Outcome State Fault Refusal :=
  request .editDrop s fun s =>
    match s.edit with
    | none => refuse s .state
    | some _ => ({ s with edit := none }, doneEmpty)

/-- WINDOW_TIMER_EXPIRY: the edit is dropped and EDIT_EXPIRED raised in SITE (R47). -/
def execWindowTimerExpiry (s : State) : Host.Outcome State Fault Refusal :=
  event s fun s =>
    match s.edit with
    | some e => if e.window = 0 then ({ s with edit := none } : State).raiseSite .editExpired else s
    | none => s

end Sys2Proof.Machine
end

