-- ==== Sys2Proof/Machine/Lighting.lean ====
section
/-! DEFINITION. The lighting unit's own events (09_lighting.md): the aisle timer set by a motion report and its expiry (R164).
The light sets themselves are in Ops. -/

namespace Sys2Proof.Machine

/-- A ROW node's binding with its aisle timer set to `t`; other bindings are unchanged. -/
def Service.withAisleTimer (t : Option Nat) (v : Service) : Service :=
  match v with
  | .row r n lights => .row r n { lights with timer := t }
  | .none => .none
  | .gas => .gas
  | .fan => .fan
  | .sign => .sign
  | .entry e a => .entry e a

/-- The aisle timer of a node set and its light set recomputed (R164, R165). -/
def State.setAisleTimer (s : State) (id : NodeId) (t : Option Nat) : State :=
  (s.setNode id { s.node id with service := (s.node id).service.withAisleTimer t }).recomputeLights id.key

/-- The lighting unit's part of an applied row report (R164). -/
def State.motionReport (s : State) (id : NodeId) (motion : Bool) : State :=
  if motion then s.setAisleTimer id (some s.site.aisleTicks) else s

/-- The aisle timer of a binding; none when it is stopped or there is none. -/
def Service.aisleTimer (v : Service) : Option Nat :=
  match v with
  | .row _ _ lights => lights.timer
  | .none => Option.none
  | .gas => Option.none
  | .fan => Option.none
  | .sign => Option.none
  | .entry _ _ => Option.none

/-- AISLE_TIMER_EXPIRY (R164, R165). -/
def execAisleTimerExpiry (line address : Nat) (s : State) : Host.Outcome State Fault Refusal :=
  event s fun s =>
    if (s.node ⟨line, address⟩).service.aisleTimer = some 0 then s.setAisleTimer ⟨line, address⟩ none else s

end Sys2Proof.Machine
end

