-- ==== Sys2Proof/Machine/Lines.lean ====
section
/-! DEFINITION. The field line controllers' commands (04_field_lines.md): the visit and its frame (R68, R69, R77, R87), the
ends of a visit (R70 to R75), the judging and routing of a report (R78, R79, R85), and line fault and restart (R81 to R83). -/

namespace Sys2Proof.Machine

/-! ## Output content and frames (R69, R77, R87, R188) -/

/-- The level of offset `i` in a light set; 0 at offsets it has no entry for (R160). -/
def LightSet.levelAt (l : LightSet) (i : Nat) : Nat := (l.bays.getD i (0, false)).1

/-- The flash mask, offset i at bit i (R188). -/
def LightSet.flashMask (l : LightSet) : Nat :=
  (List.range 16).foldl (fun m i => if (l.bays.getD i (0, false)).2 then m + 2 ^ i else m) 0

/-- The ROW command payload (R188). That the high bits of the aisle byte are 0 is the model's choice (log entry 32). -/
def LightSet.payload (l : LightSet) : List Byte :=
  ((List.range 8).map fun i => u8 (l.levelAt (2 * i) + 16 * l.levelAt (2 * i + 1))) ++ u16 l.flashMask ++ [u8 l.aisle]

/-- The ENTRY command payload; the level is read from the zone record as it stands (R133, R188). -/
def State.answerPayload (s : State) (a : Answer) : List Byte :=
  match a with
  | .ready => [u8 0]
  | .offer ticket bay zone => u8 1 :: u16 ticket ++ u16 bay ++ [u8 zone, u8 (s.zone zone).cfg.level]
  | .full ticket => u8 2 :: u16 ticket

/-- Whether the stage that names a FAN node drives it to RUN (R117). -/
def State.fanRuns (s : State) (id : NodeId) : Bool := zoneNumbers.any fun z => (s.zone z).fanRuns id

/-- The SIGN command payload of a node: BLANK when no sign names it (R152). -/
def State.signNodePayload (s : State) (id : NodeId) : List Byte :=
  match s.signOf id with
  | some i => (s.sign i).payload
  | none => [u8 0]

/-- The output content of a node as it stands (R69, R87); a GAS node has none. -/
def State.content (s : State) (id : NodeId) : List Byte :=
  match (s.node id).service with
  | .row _ _ lights => lights.payload
  | .fan => [u8 (flagCode (s.fanRuns id))]
  | .sign => s.signNodePayload id
  | .entry _ a => s.answerPayload a
  | .gas => []
  | .none => []

/-- Whether a node's replies count as those of a node in service: LIVE or BARRED (R69). -/
def NodeState.sentCommands : NodeState → Bool
  | .live => true
  | .barred => true
  | .off => false
  | .silent => false

/-- Whether the visit's frame is a command (R69). -/
def Node.takesCommand (n : Node) : Bool := n.state.sentCommands && n.outputPending && decide (n.service ≠ .gas)

/-- The marker a frame carries: BARRED to a BARRED node whatever the record holds (R77). -/
def Node.sentMarker (n : Node) : Marker := if n.state = .barred then .barred else n.marker

/-- The frame of a visit (R69, R77, R187). -/
def State.visitFrame (s : State) (id : NodeId) : List Char9 :=
  match (s.node id).service.kind with
  | some k =>
    lineFrame id.address (controlFromPart k (s.node id).takesCommand (s.node id).toggle (s.node id).sentMarker)
      (if (s.node id).takesCommand then s.content id else [])
  | none => []

/-- A node record after a frame has been built for it: the mark cleared unless the node is SILENT (R69). -/
def Node.visited (n : Node) : Node := if n.state.sentCommands then { n with outputPending := false } else n

/-! ## The scan (R68) -/

/-- The addresses of line `l` whose records are not OFF, ascending. -/
def State.addresses (s : State) (l : Nat) : List Nat :=
  ((s.nodesWhere fun n => decide (n.state ≠ .off)).filter fun k => decide (k / 64 = l)).map fun k => k % 64

/-- The address of the next visit: the lowest above the scan position, or else the lowest (R68). -/
def State.nextAddress (s : State) (l : Nat) : Option Nat :=
  match (s.addresses l).find? fun a => decide ((s.line l).scan < a) with
  | some a => some a
  | none => (s.addresses l).head?

/-- The break measure when the part begins to transmit: it has grown for as long as the receive input stood at the break
level (R81; log entry 8). Below 20 ms, since at 20 ms the line is in FAULT. -/
def Line.measureAtSend (ln : Line) (choices : Nat) : Nat :=
  if ln.rxBreak then min 19 (ln.breakMeasure + Config.breakElapsed choices) else ln.breakMeasure

/-- A visit started to address `a` of line `l` (R68, R69). -/
def State.beginVisit (s : State) (l a : Nat) : State :=
  let id : NodeId := ⟨l, a⟩
  let ln := s.line l
  let visit : Visit := { address := a, command := (s.node id).takesCommand, frame := s.visitFrame id, retired := false }
  let s1 := (s.setNode id (s.node id).visited).setLine l
    { ln with scan := a, visit := some visit, de := true, breakMeasure := ln.measureAtSend s.choices }
  { s1 with choices := if ln.rxBreak then s.choices + 1 else s.choices }

/-- VISIT_START (R68, R69). -/
def execVisitStart (line : Nat) (s : State) : Host.Outcome State Fault Refusal :=
  event s fun s =>
    if (s.line line).state = .scanning ∧ (s.line line).visit = none then
      match s.nextAddress line with
      | some a => s.beginVisit line a
      | none => s
    else s

/-- FRAME_SENT: the driver is released and the controller waits for a reply (R70). It watches its receive input again, so a
measure that no longer finds the break level returns to 0 (R81). -/
def execFrameSent (line : Nat) (s : State) : Host.Outcome State Fault Refusal :=
  event s fun s =>
    let ln := s.line line
    if ln.visit.isSome && ln.de then
      s.setLine line { ln with de := false, breakMeasure := if ln.rxBreak then ln.breakMeasure else 0 }
    else s

/-! ## Reports (R78, R79, R85) -/

/-- Whether a report's toggle makes it fresh (R78). -/
def Expected.fresh (e : Expected) (toggle : Bool) : Bool :=
  match e with
  | .any => true
  | .zero => !toggle
  | .one => toggle

/-- The expected toggle after a fresh report: the opposite of its toggle (R78). -/
def opposite (toggle : Bool) : Expected := if toggle then .zero else .one

/-- The answer record of an ENTRY binding with its entrance. -/
def Service.answer (v : Service) : Option (Nat × Answer) :=
  match v with
  | .entry e a => some (e, a)
  | .none => Option.none
  | .row _ _ _ => Option.none
  | .gas => Option.none
  | .fan => Option.none
  | .sign => Option.none

/-- The row and bay count of a ROW binding. -/
def Service.rowBinding (v : Service) : Option (Nat × Nat) :=
  match v with
  | .row r n _ => some (r, n)
  | .none => Option.none
  | .gas => Option.none
  | .fan => Option.none
  | .sign => Option.none
  | .entry _ _ => Option.none

/-- Whether a report is an entry request that the guidance unit answers as busy (R79, R136). -/
def Node.answersBusy (n : Node) (body : Report) : Bool :=
  match body, n.service.answer with
  | .entry ack req, some (_, a) => a.busyFor ack req
  | .entry _ _, none => false
  | .row _ _, _ => false
  | .gas _ _ _ _, _ => false
  | .fan _ _, _ => false

/-- The marker set when a fresh report is taken (R79). -/
def Node.markerFor (n : Node) (body : Report) : Marker :=
  if n.state = .barred then .barred else if n.answersBusy body then .busy else .none

/-- An applied ROW report: two hand-overs without order between them (R85). -/
def State.rowReport (s : State) (id : NodeId) (r n : Nat) (presence : BitVec 16) (motion : Bool) : State :=
  s.inAnyOrder (fun s i => if i = 0 then s.censusReport r n presence else s.motionReport id motion) [0, 1]

/-- An applied GAS report: each zone with a slot taking a sample is updated once, in no order (R92, R104). -/
def State.gasReport (s : State) (id : NodeId) (r0 : Nat) (v0 : Bool) (r1 : Nat) (v1 : Bool) : State :=
  s.inAnyOrder (fun s z => s.changeZone z ((s.zone z).handOn ((s.zone z).gasUpdate id r0 v0 r1 v1)))
    (s.zonesWhere fun z => z.slots.any (Slot.takes id r0 v0 r1 v1))

/-- The reading of a FAN report by the stage at place `i`: TRIP governs, then PROOF (R118, R86). -/
def Zone.fanReading (z : Zone) (i : Nat) (proof trip : Bool) : Zone :=
  if trip then z.tripStage i else if proof then z.proveStage i else z

/-- An applied FAN report, taken by the stage that names the node (R118). -/
def State.fanReport (s : State) (id : NodeId) (proof trip : Bool) : State :=
  (s.zonesWhere fun z => z.hasStageOf id).foldl
    (fun s z =>
      match (s.zone z).stagePlace id with
      | some i => s.putZone z ((s.zone z).fanReading i proof trip)
      | none => s) s

/-- A report routed to the owners of the records it concerns (R85). -/
def State.applyReport (s : State) (id : NodeId) (body : Report) : State :=
  match body with
  | .row presence motion =>
    match (s.node id).service.rowBinding with
    | some (r, n) => s.rowReport id r n presence motion
    | none => s
  | .gas r0 v0 r1 v1 => s.gasReport id r0 v0 r1 v1
  | .fan proof trip => s.fanReport id proof trip
  | .entry ack req =>
    match (s.node id).service.answer with
    | some (e, a) => s.entryReport id e a ack req
    | none => s

/-- A report judged against the expected toggle and, when it is fresh, taken, marked and applied (R78, R79, R74). -/
def State.judgeReport (s : State) (id : NodeId) (toggle : Bool) (body : Report) : State :=
  let n := s.node id
  if n.toggle.fresh toggle then
    let s' := s.setNode id { n with toggle := opposite toggle, marker := n.markerFor body }
    if n.state = .barred then s' else s'.applyReport id body
  else s

/-! ## The ends of a visit (R71 to R75) -/

/-- The part of a valid reply before its report is judged: the miss count 0, and the return from SILENT with its NODE_BACK
(R73). -/
def State.answeredVisit (s : State) (id : NodeId) : State :=
  let n := s.node id
  if n.state = .silent then
    (s.setNode id { n with misses := 0, state := .live, outputPending := true }).raiseNodeEvent id .nodeBack
  else s.setNode id { n with misses := 0 }

/-- A valid reply taken from node `id` (R73). -/
def State.takeReply (s : State) (id : NodeId) (r : Reply) : State :=
  match r with
  | .null => s.answeredVisit id
  | .report toggle body => (s.answeredVisit id).judgeReport id toggle body

/-- A node record after a miss (R71). -/
def Node.missed (n : Node) (command : Bool) : Node :=
  { n with misses := min Config.silenceLimit (n.misses + 1), outputPending := n.outputPending || command }

/-- A miss at node `id` (R71, R72). An OFF record counts none (R75). -/
def State.miss (s : State) (id : NodeId) (command : Bool) : State :=
  let n := s.node id
  if n.state = .off then s
  else
    let s' := s.setNode id (n.missed command)
    if n.state = .live ∧ (n.missed command).misses = Config.silenceLimit then s'.goSilent id else s'

/-- The visit of line `l` that is waiting for its reply (R70). -/
def Line.awaiting (ln : Line) : Option Visit := if ln.state = .scanning ∧ ln.de = false then ln.visit else none

/-- The visit of line `l` ended. -/
def State.endVisit (s : State) (l : Nat) : State := s.setLine l { s.line l with visit := none }

/-- The visit of line `l` ends, with an effect on the node visited unless its record was retired during the visit (R55,
R75; log entry 22). -/
def State.concludeVisit (s : State) (l : Nat) (effect : State → Visit → State) : State :=
  match (s.line l).awaiting with
  | some v => if v.retired then s.endVisit l else effect (s.endVisit l) v
  | none => s

/-- The visit of line `l` ends as a miss. -/
def State.missVisit (s : State) (l : Nat) : State := s.concludeVisit l fun s v => s.miss ⟨l, v.address⟩ v.command

/-- A reply taken by the record as it stands (R75): nothing where the record is OFF, a miss when it is not valid (R70). -/
def State.replyTo (s : State) (id : NodeId) (command : Bool) (chars : List Char9) : State :=
  if (s.node id).state = .off then s
  else
    match (s.node id).service.kind with
    | none => s
    | some k =>
      match parseReply k id.address chars with
      | some r => s.takeReply id r
      | none => s.miss id command

/-- VALID_REPLY (R73, R75, R78, R79, R85; log entry 16). -/
def execValidReply (line : Nat) (chars : List Char9) (s : State) : Host.Outcome State Fault Refusal :=
  event s fun s => s.concludeVisit line fun s v => s.replyTo ⟨line, v.address⟩ v.command chars

/-- REPLY_WINDOW_CLOSE (R71). -/
def execReplyWindowClose (line : Nat) (s : State) : Host.Outcome State Fault Refusal := event s fun s => s.missVisit line

/-- BAD_REPLY (R70, R71). -/
def execBadReply (line : Nat) (s : State) : Host.Outcome State Fault Refusal := event s fun s => s.missVisit line

/-! ## Line fault and restart (R81 to R83) -/

/-- A line record after its receive input has moved (R81). While the part transmits the controller does not watch its input,
and only the pin moves; otherwise leaving the break level returns the measure to 0. -/
def Line.received (ln : Line) (atBreak : Bool) : Line :=
  { ln with rxBreak := atBreak, breakMeasure := if atBreak || ln.de then ln.breakMeasure else 0 }

/-- BREAK_LEVEL_CHANGE (R81). The input belongs to the outside, so it moves while RESET is held too (log entry 7). -/
def execBreakLevelChange (line : Nat) (atBreak : Bool) (s : State) : Host.Outcome State Fault Refusal :=
  if line < Config.lineCount then .next (s.setLine line ((s.line line).received atBreak)).withOutputs else .next s

/-- A line gone into FAULT: the visit abandoned, the measure not kept, the probe timer started (R81, R82). -/
def Line.faulted (ln : Line) : Line :=
  { ln with state := .fault, visit := none, breakMeasure := 0, probe := some Config.probeTicks, watch := false }

/-- The command of an abandoned visit set pending again, without a miss (R82). -/
def State.abandonVisit (s : State) (l : Nat) (v : Option Visit) : State :=
  match v with
  | some v => if v.command then s.markOutput ⟨l, v.address⟩ else s
  | none => s

/-- The LIVE nodes of line `l`, ascending. -/
def State.liveNodes (s : State) (l : Nat) : List Nat :=
  (s.nodesWhere fun n => decide (n.state = .live)).filter fun k => decide (k / 64 = l)

/-- Line `l` enters FAULT (R82). -/
def State.enterFault (s : State) (l : Nat) : State :=
  let s1 := ((s.setLine l (s.line l).faulted).abandonVisit l (s.line l).visit).raiseSite .lineFault
  s1.inAnyOrder (fun s k => s.goSilent (nodeIdOf k)) (s1.liveNodes l)

/-- BREAK_DETECTED (R82). -/
def execBreakDetected (line : Nat) (s : State) : Host.Outcome State Fault Refusal :=
  event s fun s =>
    let ln := s.line line
    if ln.state = .scanning ∧ ln.rxBreak = true ∧ ln.de = false then s.enterFault line else s

/-- PROBE_TIMER_EXPIRY: the watch begins (R83). -/
def execProbeTimerExpiry (line : Nat) (s : State) : Host.Outcome State Fault Refusal :=
  event s fun s =>
    let ln := s.line line
    if ln.state = .fault ∧ ln.probe = some 0 then s.setLine line { ln with probe := none, watch := true } else s

/-- A node record of a line that returns to SCANNING (R80, R83). -/
def Node.relearned (n : Node) : Node := if n.state = .off then n else { n with toggle := .any, marker := .none }

/-- Every node of line `l` to be learned again (R83). -/
def State.relearnLine (s : State) (l : Nat) : State :=
  ((s.nodesWhere fun n => decide (n.state ≠ .off)).filter fun k => decide (k / 64 = l)).foldl
    (fun s k => s.setNode (nodeIdOf k) (s.node (nodeIdOf k)).relearned) s

/-- PROBE_WATCH_END (R83). -/
def execProbeWatchEnd (line : Nat) (idle : Bool) (s : State) : Host.Outcome State Fault Refusal :=
  event s fun s =>
    let ln := s.line line
    if ln.state = .fault ∧ ln.watch = true then
      if idle then
        ((s.setLine line { ln with state := .scanning, scan := 0, breakMeasure := 0, watch := false }).relearnLine
          line).raiseSite .lineBack
      else s.setLine line { ln with watch := false, probe := some Config.probeTicks }
    else s

/-! ## Reading a node (R89) -/

/-- The slots that name a GAS node, each as zone, slot number and channel (R89, R191). Their order, by rising zone and slot
number, is the model's choice (log entry 31). -/
def State.slotsNaming (s : State) (id : NodeId) : List Byte :=
  zoneNumbers.flatMap fun z =>
    ((s.zone z).slots.zipIdx.filter fun p => decide (p.1.node = id)).flatMap fun p => [u8 z, u8 (p.2 + 1), u8 p.1.channel]

/-- The stage that names a FAN node, as 1, zone and stage number, or 0 for none (R89, R191). -/
def State.stageNaming (s : State) (id : NodeId) : List Byte :=
  match zoneNumbers.find? fun z => (s.zone z).hasStageOf id with
  | none => [u8 0]
  | some z =>
    match (s.zone z).stagePlace id with
    | some i => [u8 1, u8 z, u8 (i + 1)]
    | none => [u8 0]

/-- The kind part of a GET_NODE response (R89, R191). -/
def State.kindPart (s : State) (id : NodeId) : List Byte :=
  match (s.node id).service with
  | .none => []
  | .row r n _ => [u8 r, u8 n]
  | .entry e a => [u8 e, u8 (flagCode (decide (a ≠ .ready)))]
  | .gas => u8 ((s.slotsNaming id).length / 3) :: s.slotsNaming id
  | .fan => s.stageNaming id
  | .sign => [u8 ((s.signOf id).getD 255)]

/-- The code of a node's kind, 0 for none (R191). -/
def Service.kindCode (v : Service) : Nat :=
  match v.kind with
  | some k => k.code
  | Option.none => 0

/-- Whether a visit to node `id` is in flight (R89). -/
def State.visiting (s : State) (id : NodeId) : Bool :=
  match (s.line id.line).visit with
  | some v => decide (v.address = id.address)
  | none => false

/-- The GET_NODE payload (R89, R191). That the bits of the last byte which R191 does not name are 0 is the model's choice (log
entry 32). -/
def State.nodePayload (s : State) (id : NodeId) : List Byte :=
  let n := s.node id
  [u8 (s.line id.line).state.code, u8 n.service.kindCode, u8 n.state.code, u8 n.misses, u8 n.toggle.code, u8 n.marker.code,
    u8 (flagCode n.outputPending + 2 * flagCode (s.visiting id))] ++ s.kindPart id

/-- GET_NODE (R89). -/
def execGetNode (line address : Nat) (s : State) : Host.Outcome State Fault Refusal :=
  request (.getNode line address) s fun s =>
    if nodeInRange line address then done s (s.nodePayload ⟨line, address⟩) else refuse s .range

end Sys2Proof.Machine
end

