-- ==== Sys2Proof/Machine/Ventilation.lean ====
section
/-! DEFINITION. The ventilation unit's commands (06_ventilation_demand_and_fan_staging.md): ZONE_FLOOR (R115), FAN_RESET (R126)
and the three timers of a zone's stages and sequencer (R122 to R124). The sequencer itself is in FanSequencer. -/

namespace Sys2Proof.Machine

/-- A zone record with its host floor set and the target recomputed (R115). -/
def Zone.floored (z : Zone) (floor : Nat) : Zone := ({ z with hostFloor := floor }).demandChange false

/-- ZONE_FLOOR (R115). -/
def execZoneFloor (zone floor : Nat) (s : State) : Host.Outcome State Fault Refusal :=
  request (.zoneFloor zone floor) s fun s =>
    if (zoneInRange zone && decide (floor ≤ 4)) = false then refuse s .range
    else if (s.zone zone).inUse = false then refuse s .state
    else (s.putZone zone ((s.zone zone).floored floor), doneEmpty)

/-- A zone record with the FAULTED stage at place `i` returned to IDLE and the sequencer told (R126). -/
def Zone.resetStage (z : Zone) (i : Nat) : Zone :=
  Zone.tellSequencer { z.changeStage i Stage.rest with shortHold := false }

/-- FAN_RESET (R126). -/
def execFanReset (zone stage : Nat) (s : State) : Host.Outcome State Fault Refusal :=
  request (.fanReset zone stage) s fun s =>
    if (zoneInRange zone && within 1 4 stage) = false then refuse s .range
    else if (s.zone zone).inUse = false ∨ (s.zone zone).stages.length < stage then refuse s .state
    else if (s.zone zone).statusAt (stage - 1) ≠ .faulted then refuse s .state
    else (s.putZone zone ((s.zone zone).resetStage (stage - 1)), doneEmpty)

/-- Whether the stage at place `i` is STARTING with its proof timer at 0 (R122). -/
def Zone.proofDue (z : Zone) (i : Nat) : Bool :=
  match z.stages[i]? with
  | some g => decide (g.status = .starting) && decide (g.proof = 0)
  | none => false

/-- Whether the stage at place `i` is STOPPING with its rundown timer at 0 (R123). -/
def Zone.rundownDue (z : Zone) (i : Nat) : Bool :=
  match z.stages[i]? with
  | some g => decide (g.status = .stopping) && decide (g.rundown = 0)
  | none => false

/-- PROOF_TIMER_EXPIRY of stage number `stage`: FAULTED with cause NO_PROOF (R122). -/
def execProofTimerExpiry (zone stage : Nat) (s : State) : Host.Outcome State Fault Refusal :=
  event s fun s =>
    if 1 ≤ stage ∧ (s.zone zone).proofDue (stage - 1) = true then
      s.putZone zone ((s.zone zone).faultStage (stage - 1) .noProof)
    else s

/-- The zone record after the rundown of the stage at place `i`: IDLE, and the step has ended (R123). -/
def Zone.rundownEnd (z : Zone) (i : Nat) : Zone := (z.changeStage i Stage.rest).stepDownEnded

/-- RUNDOWN_TIMER_EXPIRY of stage number `stage` (R123). -/
def execRundownTimerExpiry (zone stage : Nat) (s : State) : Host.Outcome State Fault Refusal :=
  event s fun s =>
    if 1 ≤ stage ∧ (s.zone zone).rundownDue (stage - 1) = true then
      s.putZone zone ((s.zone zone).rundownEnd (stage - 1))
    else s

/-- DWELL_TIMER_EXPIRY (R124). -/
def execDwellTimerExpiry (zone : Nat) (s : State) : Host.Outcome State Fault Refusal :=
  event s fun s =>
    if (s.zone zone).seq = .dwell ∧ (s.zone zone).dwell = 0 then s.putZone zone (s.zone zone).enterIdle else s

end Sys2Proof.Machine
end

