-- ==== Sys2Proof/Machine/Zones.lean ====
section
/-! DEFINITION. Zones, routes and site settings (02_zones_routes_and_site_settings.md): the requests that set and read a zone
record, the route table and the site record. -/

namespace Sys2Proof.Machine

/-! ## Setting a zone -/

/-- Whether an ENTRY node's open OFFER names zone `z` (R133). -/
def Node.offersZone (z : Nat) (n : Node) : Bool :=
  match n.service with
  | .entry _ (.offer _ _ z') => decide (z' = z)
  | .entry _ .ready => false
  | .entry _ (.full _) => false
  | .none => false
  | .row _ _ _ => false
  | .gas => false
  | .fan => false
  | .sign => false

/-- The nodes whose open OFFER names zone `z` marked, when its level changed (R30, R133). -/
def State.levelChanged (s : State) (z : Nat) (before after : Nat) : State :=
  if before = after then s
  else (s.nodesWhere (Node.offersZone z)).foldl (fun s k => s.markOutput (nodeIdOf k)) s

/-- The zone record after a ZONE_SET asking for IN_USE: the configuration written, the band procedure taken against the
present S, and the demand part recomputed (R30, R116). -/
def Zone.configured (z : Zone) (cfg : ZoneParams) : Zone :=
  let z' := Zone.bandProcedure { z with cfg := cfg, inUse := true }
  z'.demandChange (decide (z'.band = .purge ∧ z.band ≠ .purge))

/-- ZONE_SET asking for IN_USE (R29, R30). -/
def execZoneSetInUse (zone useState : Nat) (cfg : ZoneParams) (s : State) : Host.Outcome State Fault Refusal :=
  request (.zoneSetInUse zone useState cfg) s fun s =>
    if zoneInRange zone && decide (useState = 1) && zoneParamsInRange cfg then
      ((s.changeZone zone ((s.zone zone).configured cfg)).levelChanged zone (s.zone zone).cfg.level cfg.level, doneEmpty)
    else refuse s .range

/-- Whether zone `z` is still named by a non-RETIRED bay, a slot, a stage or a sign (R31). -/
def State.zoneNamed (s : State) (z : Nat) : Bool :=
  (s.bays.any fun e => decide (e.2.cls ≠ .retired) && decide (e.2.zone = z))
    || !(s.zone z).slots.isEmpty || !(s.zone z).stages.isEmpty
    || (signNumbers.any fun i => (s.sign i).zones.getLsbD z)

/-- A zone record made FREE: its power-on values, but for the members of its pending set (R31). -/
def Zone.freed (z : Zone) : Zone := { Zone.powerOn with pending := z.pending }

/-- ZONE_SET asking for FREE (R31). The configuration values it carries are neither checked nor written. -/
def execZoneSetFree (zone : Nat) (cfg : ZoneParams) (s : State) : Host.Outcome State Fault Refusal :=
  request (.zoneSetFree zone cfg) s fun s =>
    if zoneInRange zone = false then refuse s .range
    else if s.zoneNamed zone then refuse s .state
    else
      ((s.changeZone zone (s.zone zone).freed).levelChanged zone (s.zone zone).cfg.level Zone.powerOn.cfg.level, doneEmpty)

/-- The host shed flag of a zone set or cleared (R33). -/
def State.shedZone (s : State) (zone : Nat) (flag : Bool) : State × OwnerAnswer :=
  if zoneInRange zone = false then refuse s .range
  else if (s.zone zone).inUse = false then refuse s .state
  else (s.changeZone zone { s.zone zone with hostShed := flag }, doneEmpty)

/-- ZONE_SHED (R33). -/
def execZoneShed (zone : Nat) (s : State) : Host.Outcome State Fault Refusal :=
  request (.zoneShed zone) s fun s => s.shedZone zone true

/-- ZONE_UNSHED (R33). -/
def execZoneUnshed (zone : Nat) (s : State) : Host.Outcome State Fault Refusal :=
  request (.zoneUnshed zone) s fun s => s.shedZone zone false

/-! ## Reading a zone -/

/-- The GET_ZONE payload (R35, R191). -/
def Zone.payload (z : Zone) (number : Nat) : List Byte :=
  [u8 number, u8 (flagCode z.inUse), u8 (flagCode z.shed)] ++ z.cfg.bytes ++ [u8 (flagCode z.hostShed), u8 z.hostFloor]
    ++ z.tallies.bytes
    ++ u8 z.slots.length :: z.slots.flatMap Slot.bytes
    ++ u16 z.I ++ u16 z.S ++ [u8 z.band.code, u8 (flagCode z.blind)]
    ++ u16 z.L ++ u16 z.T ++ u16 z.P ++ u16 z.D
    ++ [u8 z.computed, u8 z.bandFloor, u8 z.blindFloor, u8 z.hostFloorClamped, u8 z.target]
    ++ u8 z.stages.length :: z.stages.flatMap Stage.bytes
    ++ [u8 z.c, u8 z.seq.code] ++ u16 z.dwell ++ sequenceBytes z.sequence ++ [u8 (flagCode z.shortHold)]
    ++ [u8 z.last.origin, u8 z.last.goal, u8 z.last.steps, u8 z.last.outcome.code]
    ++ maskBytes z.pending ++ maskBytes z.cfg.mask

/-- GET_ZONE (R35). -/
def execGetZone (zone : Nat) (s : State) : Host.Outcome State Fault Refusal :=
  request (.getZone zone) s fun s =>
    if zoneInRange zone then done s ((s.zone zone).payload zone) else refuse s .range

/-! ## Routes -/

/-- An entrance number (R38). -/
def entranceInRange (e : Nat) : Bool := decide (e < Config.entranceCount)

/-- ROUTE_SET (R38). -/
def execRouteSet (entrance zone cost : Nat) (s : State) : Host.Outcome State Fault Refusal :=
  request (.routeSet entrance zone cost) s fun s =>
    if entranceInRange entrance && zoneInRange zone then (s.setRoute entrance zone cost, doneEmpty) else refuse s .range

/-- GET_ROUTES (R39, R191). -/
def execGetRoutes (entrance : Nat) (s : State) : Host.Outcome State Fault Refusal :=
  request (.getRoutes entrance) s fun s =>
    if entranceInRange entrance then done s (u8 entrance :: zoneNumbers.map fun z => u8 (s.route entrance z))
    else refuse s .range

/-! ## Site record -/

/-- SITE_SET (R41, R42). -/
def execSiteSet (site : SiteParams) (s : State) : Host.Outcome State Fault Refusal :=
  request (.siteSet site) s fun s =>
    if siteParamsInRange site then (({ s with site := saturatedSite site } : State).allLights, doneEmpty)
    else refuse s .range

/-- The GET_SITE payload (R43, R191). -/
def sitePayload (site : SiteParams) : List Byte := site.bytes ++ u16 Config.partCode ++ [u8 Config.revisionLetter]

/-- GET_SITE (R43). -/
def execGetSite (s : State) : Host.Outcome State Fault Refusal :=
  request .getSite s fun s => done s (sitePayload s.site)

end Sys2Proof.Machine
end

