-- ==== Sys2Proof/Machine/Dispatch.lean ====
section
/-! DEFINITION. The effect of each command on everything but the queue: one arm per row of spec/opcode_table.json, in its
order. -/

namespace Sys2Proof.Machine

/-- The command's effect. -/
def exec (i : Instr) (s : State) : Host.Outcome State Fault Refusal :=
  match i with
  | .getBay bay => Sys2Proof.Machine.execGetBay bay s
  | .getRow row => Sys2Proof.Machine.execGetRow row s
  | .bayClose bay => Sys2Proof.Machine.execBayClose bay s
  | .bayOpen bay => Sys2Proof.Machine.execBayOpen bay s
  | .holdRelease bay => Sys2Proof.Machine.execHoldRelease bay s
  | .zoneSetInUse zone useState cfg => Sys2Proof.Machine.execZoneSetInUse zone useState cfg s
  | .zoneSetFree zone cfg => Sys2Proof.Machine.execZoneSetFree zone cfg s
  | .zoneShed zone => Sys2Proof.Machine.execZoneShed zone s
  | .zoneUnshed zone => Sys2Proof.Machine.execZoneUnshed zone s
  | .getZone zone => Sys2Proof.Machine.execGetZone zone s
  | .routeSet entrance zone cost => Sys2Proof.Machine.execRouteSet entrance zone cost s
  | .getRoutes entrance => Sys2Proof.Machine.execGetRoutes entrance s
  | .siteSet site => Sys2Proof.Machine.execSiteSet site s
  | .getSite => Sys2Proof.Machine.execGetSite s
  | .editOpen row offset => Sys2Proof.Machine.execEditOpen row offset s
  | .editPut zone cls closed => Sys2Proof.Machine.execEditPut zone cls closed s
  | .editCommit => Sys2Proof.Machine.execEditCommit s
  | .editDrop => Sys2Proof.Machine.execEditDrop s
  | .nodeBind line address kind b1 b2 => Sys2Proof.Machine.execNodeBind line address kind b1 b2 s
  | .nodeRetire line address => Sys2Proof.Machine.execNodeRetire line address s
  | .nodeBar line address => Sys2Proof.Machine.execNodeBar line address s
  | .nodeUnbar line address => Sys2Proof.Machine.execNodeUnbar line address s
  | .zoneSlotBind form zone line address channel ref => Sys2Proof.Machine.execZoneSlotBind form zone line address channel ref s
  | .zoneSlotUnbind form zone slot => Sys2Proof.Machine.execZoneSlotUnbind form zone slot s
  | .zoneStageBind form zone line address => Sys2Proof.Machine.execZoneStageBind form zone line address s
  | .zoneStageUnbind form zone stage => Sys2Proof.Machine.execZoneStageUnbind form zone stage s
  | .getNode line address => Sys2Proof.Machine.execGetNode line address s
  | .zoneFloor zone floor => Sys2Proof.Machine.execZoneFloor zone floor s
  | .fanReset zone stage => Sys2Proof.Machine.execFanReset zone stage s
  | .holdPlaceByBay bay ticket => Sys2Proof.Machine.execHoldPlaceByBay bay ticket s
  | .holdPlaceBest entrance cls ticket => Sys2Proof.Machine.execHoldPlaceBest entrance cls ticket s
  | .signSet sign line address mode zones filter text => Sys2Proof.Machine.execSignSet sign line address mode zones filter text s
  | .getSign sign => Sys2Proof.Machine.execGetSign sign s
  | .eventsTake set clear => Sys2Proof.Machine.execEventsTake set clear s
  | .eventsSummary => Sys2Proof.Machine.execEventsSummary s
  | .clear => Sys2Proof.Machine.execClear s
  | .unknownRequest code params => Sys2Proof.Machine.execUnknownRequest code params s
  | .read clocked => Sys2Proof.Machine.execRead clocked s
  | .resetAssert => Sys2Proof.Machine.execResetAssert s
  | .resetRelease => Sys2Proof.Machine.execResetRelease s
  | .startUpEnd => Sys2Proof.Machine.execStartUpEnd s
  | .settleTimerExpiry bay => Sys2Proof.Machine.execSettleTimerExpiry bay s
  | .departTimerExpiry bay => Sys2Proof.Machine.execDepartTimerExpiry bay s
  | .holdTimerExpiry bay => Sys2Proof.Machine.execHoldTimerExpiry bay s
  | .windowTimerExpiry => Sys2Proof.Machine.execWindowTimerExpiry s
  | .ageTimerExpiry zone slot => Sys2Proof.Machine.execAgeTimerExpiry zone slot s
  | .proofTimerExpiry zone stage => Sys2Proof.Machine.execProofTimerExpiry zone stage s
  | .rundownTimerExpiry zone stage => Sys2Proof.Machine.execRundownTimerExpiry zone stage s
  | .dwellTimerExpiry zone => Sys2Proof.Machine.execDwellTimerExpiry zone s
  | .aisleTimerExpiry line address => Sys2Proof.Machine.execAisleTimerExpiry line address s
  | .probeTimerExpiry line => Sys2Proof.Machine.execProbeTimerExpiry line s
  | .probeWatchEnd line idle => Sys2Proof.Machine.execProbeWatchEnd line idle s
  | .visitStart line => Sys2Proof.Machine.execVisitStart line s
  | .validReply line chars => Sys2Proof.Machine.execValidReply line chars s
  | .replyWindowClose line => Sys2Proof.Machine.execReplyWindowClose line s
  | .badReply line => Sys2Proof.Machine.execBadReply line s
  | .breakDetected line => Sys2Proof.Machine.execBreakDetected line s
  | .tick => Sys2Proof.Machine.execTick s
  | .breakLevelChange line atBreak => Sys2Proof.Machine.execBreakLevelChange line atBreak s
  | .frameSent line => Sys2Proof.Machine.execFrameSent line s
  | .malformedRequest bytes => Sys2Proof.Machine.execMalformedRequest bytes s

end Sys2Proof.Machine
end

