-- ==== Sys2Proof/WellFormed.lean ====
section
/-! DEFINITION. Which command terms stand for something that can reach the part: a host request whose parameters fit the
bytes that carry them (R190), an event at a record that exists. -/

namespace Sys2Proof

/-- A number that one byte carries. -/
def isByte (n : Nat) : Bool := decide (n < 256)

/-- A number that two bytes carry. -/
def isWord (n : Nat) : Bool := decide (n < 65536)

/-- The configuration values fit the bytes of ZONE_SET (R190). -/
def ZoneParams.fits (c : ZoneParams) : Bool :=
  isByte c.level && isWord c.lo && isWord c.hi && isWord c.raisedOn && isWord c.highOn && isWord c.purgeOn && isByte c.bandH
    && isByte c.kRise && isByte c.kFall && isByte c.loadWeight && isByte c.demandH && isByte c.blindStage
    && isWord c.staleTicks && isWord c.proofTicks && isWord c.rundownTicks && isWord c.dwellUp && isWord c.dwellDown

/-- The site values fit the bytes of SITE_SET (R190). -/
def SiteParams.fits (c : SiteParams) : Bool :=
  isWord c.settleTicks && isWord c.departTicks && isWord c.holdTicks && isByte c.raisedPenalty && isByte c.holdWeight
    && isByte c.base && isByte c.guide && isByte c.active && isByte c.parked && isByte c.aisleIdle && isByte c.aisleActive
    && isWord c.aisleTicks

/-- The line exists (R63). -/
def isLine (l : Nat) : Bool := decide (l < Config.lineCount)

/-- The bay exists (R1). -/
def isBay (b : Nat) : Bool := decide (b < Config.bayCount)

/-- The zone exists (R27). -/
def isZone (z : Nat) : Bool := decide (z < Config.zoneCount)

/-- A slot or stage number (R58, R60). -/
def isPlace (n : Nat) : Bool := decide (1 ≤ n) && decide (n ≤ 4)

/-- The line and address exist (R65). -/
def isNode (l a : Nat) : Bool := isLine l && decide (1 ≤ a) && decide (a ≤ Config.lastAddress)

/-- A term that stands for a command that can reach the part. -/
def Instr.wf : Instr → Bool
  | .getBay b => isWord b
  | .getRow r => isByte r
  | .bayClose b => isWord b
  | .bayOpen b => isWord b
  | .holdRelease b => isWord b
  | .zoneSetInUse z u c => isByte z && isByte u && decide (u ≠ 0) && c.fits
  | .zoneSetFree z c => isByte z && c.fits
  | .zoneShed z => isByte z
  | .zoneUnshed z => isByte z
  | .getZone z => isByte z
  | .routeSet e z c => isByte e && isByte z && isByte c
  | .getRoutes e => isByte e
  | .siteSet c => c.fits
  | .getSite => true
  | .editOpen r o => isByte r && isByte o
  | .editPut z c f => isByte z && isByte c && isByte f
  | .editCommit => true
  | .editDrop => true
  | .nodeBind l a k b1 b2 => isByte l && isByte a && isByte k && isByte b1 && isByte b2
  | .nodeRetire l a => isByte l && isByte a
  | .nodeBar l a => isByte l && isByte a
  | .nodeUnbar l a => isByte l && isByte a
  | .zoneSlotBind f z l a ch ref => isByte f && decide (f ≠ 1) && isByte z && isByte l && isByte a && isByte ch && isWord ref
  | .zoneSlotUnbind f z n => isByte f && decide (f ≠ 0) && isByte z && isByte n
  | .zoneStageBind f z l a => isByte f && decide (f ≠ 1) && isByte z && isByte l && isByte a
  | .zoneStageUnbind f z n => isByte f && decide (f ≠ 0) && isByte z && isByte n
  | .getNode l a => isByte l && isByte a
  | .zoneFloor z v => isByte z && isByte v
  | .fanReset z n => isByte z && isByte n
  | .holdPlaceByBay b t => isWord b && isWord t
  | .holdPlaceBest e c t => isByte e && isByte c && isWord t
  | .signSet i l a m _ f text => isByte i && isByte l && isByte a && isByte m && isByte f && decide (text.length ≤ 54)
  | .getSign i => isByte i
  | .eventsTake n _ => isByte n
  | .eventsSummary => true
  | .clear => true
  | .unknownRequest code params => isByte code && !knownCode code && decide (params.length ≤ 64)
  | .read n => decide (1 ≤ n)
  | .resetAssert => true
  | .resetRelease => true
  | .startUpEnd => true
  | .settleTimerExpiry b => isBay b
  | .departTimerExpiry b => isBay b
  | .holdTimerExpiry b => isBay b
  | .windowTimerExpiry => true
  | .ageTimerExpiry z n => isZone z && isPlace n
  | .proofTimerExpiry z n => isZone z && isPlace n
  | .rundownTimerExpiry z n => isZone z && isPlace n
  | .dwellTimerExpiry z => isZone z
  | .aisleTimerExpiry l a => isNode l a
  | .probeTimerExpiry l => isLine l
  | .probeWatchEnd l _ => isLine l
  | .visitStart l => isLine l
  | .validReply l _ => isLine l
  | .replyWindowClose l => isLine l
  | .badReply l => isLine l
  | .breakDetected l => isLine l
  | .tick => true
  | .breakLevelChange l _ => isLine l
  | .frameSent l => isLine l
  | .malformedRequest bytes => decide (transactionOf bytes = some (.malformedRequest bytes))

end Sys2Proof
end

