-- ==== Sys2Proof/Safety.lean ====
section
/-! DEFINITION. The terms claims are stated in: when a request is taken, what a change leaves as it was, and the conditions
that every state of a safe run meets. -/

namespace Sys2Proof.Machine

/-! ## When a request is taken -/

/-- The part is running, serves the transaction in progress if there is one, and its buffer is empty: the next request is
taken (R180, R185). -/
def State.Ready (s : State) : Prop := s.phase = .running ∧ s.ignoring = false ∧ s.buffer = none

/-- The state in which a request is answered and nothing else has changed: the response in the buffer, the idle bytes of its
transaction, and RDY (R180, R182). -/
def State.onlyAnswered (s : State) (clocked code : Nat) (reason : Reason) (payload : List Byte) : State :=
  { s with buffer := some ⟨code, reason, payload, false⟩, miso := List.replicate clocked 0xFF#8,
           out := { s.out with rdy := true, misoDriven := false } }

/-- `t` holds the response DONE to request `code`, with this payload (R181). -/
def State.AnsweredDone (t : State) (code : Nat) (payload : List Byte) : Prop :=
  t.buffer = some ⟨code, .done, payload, false⟩

/-! ## What a change leaves as it was -/

/-- The fields of a zone record that the host and the fume unit write are the same in `x` and `y`. -/
structure Zone.SameAir (x y : Zone) : Prop where
  inUse : y.inUse = x.inUse
  cfg : y.cfg = x.cfg
  hostShed : y.hostShed = x.hostShed
  hostFloor : y.hostFloor = x.hostFloor
  slots : y.slots = x.slots
  I : y.I = x.I
  S : y.S = x.S
  band : y.band = x.band
  blind : y.blind = x.blind

/-- Node record `m` and node record `n` differ at most in the output pending mark and a light set. -/
structure Node.SameLink (m n : Node) : Prop where
  state : n.state = m.state
  misses : n.misses = m.misses
  toggle : n.toggle = m.toggle
  marker : n.marker = m.marker
  kind : n.service.kind = m.service.kind
  row : n.service.rowBinding = m.service.rowBinding
  answer : n.service.answer = m.service.answer

/-- Sign record `g` and sign record `h` differ at most in the computed value. -/
structure Sign.SameFields (g h : Sign) : Prop where
  node : h.node = g.node
  mode : h.mode = g.mode
  zones : h.zones = g.zones
  filter : h.filter = g.filter
  text : h.text = g.text

/-- What a change of the bay table or of a zone's demand leaves as it was: everything but the bay records, the tallies,
demand, stages and pending sets of zones, output pending marks, light sets, computed sign values and the response. -/
structure State.CensusFrame (s t : State) : Prop where
  phase : t.phase = s.phase
  ticks : t.ticks = s.ticks
  ignoring : t.ignoring = s.ignoring
  routes : t.routes = s.routes
  site : t.site = s.site
  sitePending : t.sitePending = s.sitePending
  edit : t.edit = s.edit
  lines : t.lines = s.lines
  choices : t.choices = s.choices
  pending : t.pending = s.pending
  zones : ∀ z, (s.zone z).SameAir (t.zone z)
  nodes : ∀ id, (s.node id).SameLink (t.node id)
  signs : ∀ i, (s.sign i).SameFields (t.sign i)

/-- What a change of zone `z`'s own record leaves as it was: every other zone record, every bay, and what
`State.CensusFrame` names outside the zones. -/
structure State.ZoneFrame (z : Nat) (s t : State) : Prop where
  phase : t.phase = s.phase
  ticks : t.ticks = s.ticks
  ignoring : t.ignoring = s.ignoring
  bays : t.bays = s.bays
  routes : t.routes = s.routes
  site : t.site = s.site
  sitePending : t.sitePending = s.sitePending
  edit : t.edit = s.edit
  lines : t.lines = s.lines
  choices : t.choices = s.choices
  pending : t.pending = s.pending
  zones : ∀ z', z' ≠ z → t.zone z' = s.zone z'
  nodes : ∀ id, (s.node id).SameLink (t.node id)
  signs : ∀ i, (s.sign i).SameFields (t.sign i)

/-- What a change of bay `b` to record `x` leaves and makes: no other bay record, no zone but those the bay leaves and
joins, and what `State.CensusFrame` names; the tallies of the zones it touches agree with the bay records (R18). -/
structure State.BayChange (s t : State) (b : Nat) (x : Bay) : Prop where
  bay : t.bay b = x
  bays : ∀ i, i ≠ b → t.bay i = s.bay i
  zones : ∀ z, z ≠ (s.bay b).zone → z ≠ x.zone → t.zone z = s.zone z
  tallies : ∀ z, z = (s.bay b).zone ∨ z = x.zone → (t.zone z).tallies = t.tallyOf z
  frame : s.CensusFrame t

/-! ## Legal records -/

/-- A line and address that the node table has a record for (R65). -/
abbrev NodeId.Exists (id : NodeId) : Prop := id.line < 4 ∧ 1 ≤ id.address ∧ id.address ≤ 63

/-- A hold within the ranges of R1. -/
abbrev Hold.Legal (h : Hold) : Prop := h.ticket ≤ 65535 ∧ h.entrance ≤ 8 ∧ h.timer ≤ 6000

/-- A bay record within the ranges of R1: its state timer runs in ARRIVING and LEAVING only, it carries a hold in VACANT and
DARK only (R11, R13), and a RETIRED bay is inert (R2). -/
abbrev Bay.Legal (b : Bay) : Prop :=
  b.zone < 32 ∧ b.stateTimer ≤ 1200 ∧ (b.census = .arriving ∨ b.census = .leaving ∨ b.stateTimer = 0)
    ∧ (∀ h ∈ b.hold, h.Legal ∧ (b.census = .vacant ∨ b.census = .dark))
    ∧ (b.cls = .retired → b.census = .dark ∧ b.stateTimer = 0 ∧ b.hold = none)

/-- A gas slot within the ranges of R91; its age timer is 0 while it is stale. -/
abbrev Slot.Legal (g : Slot) : Prop :=
  g.node.Exists ∧ g.channel ≤ 1 ∧ 1 ≤ g.ref ∧ g.ref ≤ 4095 ∧ g.n ≤ 4095 ∧ g.age ≤ 600 ∧ (g.fresh = true ∨ g.age = 0)

/-- The configuration, the fume part, the stage list and the pending set of a zone record within their ranges (R27, R29,
R91, R117, R171), with I and the blind condition as R96 and R98 give them. -/
abbrev Zone.Legal (z : Zone) : Prop :=
  zoneParamsInRange z.cfg = true ∧ z.hostFloor ≤ 4 ∧ z.slots.length ≤ 4 ∧ (∀ g ∈ z.slots, g.Legal) ∧ z.S ≤ 4095
    ∧ z.I = indexOf z.slots ∧ z.blind = blindCondition z.slots ∧ z.stages.length ≤ 4 ∧ (∀ g ∈ z.stages, g.node.Exists)
    ∧ onlyKindsOf zoneKinds z.pending = true

/-- The site record within the ranges of R40. -/
abbrev siteLegal (c : SiteParams) : Prop :=
  siteParamsInRange c = true ∧ c.raisedPenalty ≤ 255 ∧ c.holdWeight ≤ 15 ∧ c.base ≤ 15 ∧ c.guide ≤ 15 ∧ c.active ≤ 15
    ∧ c.parked ≤ 15 ∧ c.aisleIdle ≤ 15 ∧ c.aisleActive ≤ 15

/-- A row edit within the ranges of R44. -/
abbrev Edit.Legal (e : Edit) : Prop :=
  e.row < 128 ∧ e.entries.length = 16 ∧ (∀ x ∈ e.entries, x.zone < 32) ∧ e.cursor ≤ 16 ∧ e.window ≤ 600

/-- A visit to an address that exists (R63). -/
abbrev Visit.Legal (v : Visit) : Prop := 1 ≤ v.address ∧ v.address ≤ 63

/-- A line record within the ranges of R63, with what R63, R64, R81 and R83 say of each state. -/
abbrev Line.Legal (l : Line) : Prop :=
  l.scan ≤ 63 ∧ l.breakMeasure < 20 ∧ (∀ n ∈ l.probe, n ≤ 10) ∧ (∀ v ∈ l.visit, v.Legal)
    ∧ (l.de = true → l.visit.isSome = true)
    ∧ (l.state = .fault ∨ (l.probe = none ∧ l.watch = false))
    ∧ (l.state = .scanning ∨ (l.visit = none ∧ l.breakMeasure = 0))
    ∧ (l.state = .fault → l.probe.isSome ≠ l.watch)

/-- An answer record within the ranges of R132. -/
def Answer.legal (a : Answer) : Bool :=
  match a with
  | .ready => true
  | .offer ticket bay zone => decide (ticket ≤ 65535) && decide (bay < 2048) && decide (zone < 32)
  | .full ticket => decide (ticket ≤ 65535)

/-- A binding within the ranges of R65. -/
def Service.legal (v : Service) : Bool :=
  match v with
  | .row r n _ => decide (r < 128) && decide (1 ≤ n) && decide (n ≤ 16)
  | .entry e a => decide (e < 8) && a.legal
  | .none => true
  | .gas => true
  | .fan => true
  | .sign => true

/-- Whether an entry node has an open answer (R132). -/
def Service.answering (v : Service) : Bool :=
  match v with
  | .entry _ a => decide (a ≠ .ready)
  | .none => false
  | .row _ _ _ => false
  | .gas => false
  | .fan => false
  | .sign => false

/-- A node record within the ranges of R65: an OFF record is the power-on record, any other has a kind; a LIVE node has
fewer than five misses (R72), only ROW, GAS and ENTRY nodes are BARRED (R56), and only a LIVE entry node has an open answer
(R138). -/
abbrev Node.Legal (n : Node) : Prop :=
  (n.state = .off → n = Node.powerOn) ∧ (n.state ≠ .off → n.service ≠ .none) ∧ n.misses ≤ 5
    ∧ (n.state = .live → n.misses < 5) ∧ (n.state = .barred → n.service.barrable = true) ∧ n.service.legal = true
    ∧ (n.service.answering = true → n.state = .live)

/-- A sign record within the ranges of R149. -/
abbrev Sign.Legal (g : Sign) : Prop :=
  (∀ id ∈ g.node, id.Exists) ∧ g.text.length ≤ 16 ∧ (∀ b ∈ g.text, textChar b = true) ∧ g.value ≤ 999

/-- Every table is canonical, every record is within its ranges, and the commands that wait can reach the part. -/
structure State.Legal (s : State) : Prop where
  tables : s.tablesWf = true
  bays : ∀ e ∈ s.bays, e.2.Legal
  zones : ∀ e ∈ s.zones, e.2.Legal
  routes : ∀ e ∈ s.routes, e.2 ≤ 255
  site : siteLegal s.site
  sitePending : onlyKindsOf siteKinds s.sitePending = true
  edit : ∀ e ∈ s.edit, e.Legal
  lines : ∀ e ∈ s.lines, e.2.Legal
  nodes : ∀ e ∈ s.nodes, e.1 % 64 ≠ 0 ∧ e.2.Legal
  signs : ∀ e ∈ s.signs, e.2.Legal
  pending : ∀ c ∈ s.pending, c.wf = true

/-! ## What holds at all times -/

/-- The four output pins are as their rules say (R127, R128, R176, R182), and the data output is released, as it is while chip
select is high (R179). -/
def State.OutputsExact (s : State) : Prop :=
  (s.out.rdy = true ↔ s.buffer ≠ none)
    ∧ (s.out.attn = true ↔ (∃ z, z < 32 ∧ (s.zone z).pending ≠ 0#16) ∨ s.sitePending ≠ 0#16)
    ∧ (s.out.purge = true ↔ (∃ z, z < 32 ∧ (s.zone z).inUse = true ∧ (s.zone z).band = .purge)
        ∨ ∀ z, z < 32 → (s.zone z).inUse = false)
    ∧ (s.out.fault = true ↔ (∃ z, z < 32 ∧ ∃ g ∈ (s.zone z).stages, g.status = .faulted)
        ∨ ∃ l, l < 4 ∧ (s.line l).state = .fault)
    ∧ s.out.misoDriven = false

/-- The tallies of every zone agree with the bay records (R17, R18). -/
def State.TalliesAgree (s : State) : Prop := ∀ z, z < 32 → (s.zone z).tallies = s.tallyOf z

/-- The computed value of every sign is the smaller of 999 and the sum over its zone set of the counts its filter takes
(R150). -/
def State.SignsExact (s : State) : Prop :=
  ∀ i, i < 32 → (s.sign i).value
    = min 999 (((List.range 32).filter fun z => (s.sign i).zones.getLsbD z).map fun z =>
        (s.sign i).filter.countOf (s.zone z).tallies).sum

/-- The light set of every ROW node is the one that R161 to R163 derive from the records and its timer (R169). -/
def State.LightsExact (s : State) : Prop :=
  ∀ id r n lights, (s.node id).service = .row r n lights → lights = s.lightsOf r n lights.timer

/-- A bay is watched: a LIVE ROW node of its row, on a line that is SCANNING, has a bay count above its offset (R8). -/
def State.Watched (s : State) (b : Nat) : Prop :=
  ∃ id r n lights, NodeId.Exists id ∧ (s.node id).state = .live ∧ (s.line id.line).state = .scanning
    ∧ (s.node id).service = .row r n lights ∧ b / 16 = r ∧ b % 16 < n

/-- Every bay in service that is not watched is DARK (R8). -/
def State.UnwatchedDark (s : State) : Prop :=
  ∀ b, b < 2048 → (s.bay b).cls ≠ .retired → ¬ s.Watched b → (s.bay b).census = .dark

/-- A stage holds a cause exactly while FAULTED, and its timers run in STARTING and in STOPPING only (R117). -/
abbrev Stage.Legal (g : Stage) : Prop :=
  (g.cause.isSome = true ↔ g.status = .faulted) ∧ g.proof ≤ 600 ∧ g.rundown ≤ 600
    ∧ (g.status = .starting ∨ g.proof = 0) ∧ (g.status = .stopping ∨ g.rundown = 0)

/-- How many stages have a status. -/
def Zone.countStages (z : Zone) (x : StageStatus) : Nat := z.stages.countP fun g => decide (g.status = x)

/-- The sequencer of a zone and its stages (R114, R120): one STARTING stage in STEP_UP, one STOPPING in STEP_DOWN, neither
otherwise; a sequence is in progress exactly outside IDLE; the dwell timer runs in DWELL only. -/
abbrev Zone.SequencerLegal (z : Zone) : Prop :=
  (∀ g ∈ z.stages, g.Legal)
    ∧ z.countStages .starting = (if z.seq = .stepUp then 1 else 0)
    ∧ z.countStages .stopping = (if z.seq = .stepDown then 1 else 0)
    ∧ (z.sequence.isSome = true ↔ z.seq ≠ .idle) ∧ (z.seq = .dwell ∨ z.dwell = 0) ∧ z.dwell ≤ 3000
    ∧ (∀ q ∈ z.sequence, q.steps ≤ 4) ∧ z.last.steps ≤ 4

/-- Every zone's sequencer is legal. -/
def State.SequencersLegal (s : State) : Prop := ∀ z, z < 32 → (s.zone z).SequencerLegal

/-- The demand figures of a zone record are the ones its inputs give (R110, R111, R113, R114). -/
def Zone.FiguresExact (z : Zone) : Prop :=
  z.L = z.tallies.arriving + z.tallies.leaving + z.tallies.holds
    ∧ z.T = min 1000 (z.L * z.cfg.loadWeight)
    ∧ z.P = (if z.S ≤ z.cfg.lo then 0 else if z.cfg.hi ≤ z.S then 1000
        else (z.S - z.cfg.lo) * 1000 / (z.cfg.hi - z.cfg.lo))
    ∧ z.D = min 1000 (z.P + z.T)
    ∧ z.computed = computedTarget z.D z.N z.cfg.demandH z.c
    ∧ z.bandFloor = min (bandFloorOf z.band z.N) z.N
    ∧ z.blindFloor = min (if z.blind = true then z.cfg.blindStage else 0) z.N
    ∧ z.hostFloorClamped = min z.hostFloor z.N
    ∧ z.target = max (max z.computed z.bandFloor) (max z.blindFloor z.hostFloorClamped)

/-- Zone record `x` with the demand figures of record `y`. -/
def Zone.withFiguresOf (x y : Zone) : Zone :=
  { x with L := y.L, T := y.T, P := y.P, D := y.D, computed := y.computed, bandFloor := y.bandFloor,
           blindFloor := y.blindFloor, hostFloorClamped := y.hostFloorClamped, target := y.target }

/-- The sequence in progress after a re-evaluation that steps in direction `d`: the one in progress with the target as its
goal where that is its direction, and otherwise a new one from c (R120). -/
def Zone.sequenceToward (x : Zone) (d : Direction) : Sequence :=
  match x.sequence with
  | some q => if q.dir = d then { q with goal := x.target } else ⟨d, x.c, x.target, 0⟩
  | none => ⟨d, x.c, x.target, 0⟩

/-- The last-sequence record after a re-evaluation that steps in direction `d`: a sequence in the other direction has ended
CUT (R120). -/
def Zone.lastToward (x : Zone) (d : Direction) : LastSequence :=
  match x.sequence with
  | some q => if q.dir = d then x.last else ⟨q.origin, q.goal, q.steps, .cut⟩
  | none => x.last

/-- Record `y` is zone record `x` after its IDLE sequencer has re-evaluated, by the table of R120 and the first steps of R121
to R123. -/
structure Zone.ReEvaluated (x y : Zone) : Prop where
  rests : x.sequence = none → x.target = x.c ∨ x.shortHold = true → y = x
  done : ∀ q, x.sequence = some q → x.target = x.c →
    y = { x with sequence := none, last := ⟨q.origin, q.goal, q.steps, .done⟩ }
  up : ∀ (j : Nat) (h : Stage), x.sequence ≠ none ∨ x.shortHold = false → x.c < x.target → x.stages[j]? = some h →
    h.status = .idle → (∀ k, k < j → ∀ g, x.stages[k]? = some g → g.status ≠ .idle) →
    y = { x with stages := y.stages, seq := .stepUp, sequence := some (x.sequenceToward .up), last := x.lastToward .up }
      ∧ ∀ k, y.stages[k]? = if k = j then
          some { h with status := .starting, cause := none, proof := x.cfg.proofTicks, rundown := 0 } else x.stages[k]?
  short : x.sequence ≠ none ∨ x.shortHold = false → x.c < x.target → (∀ h ∈ x.stages, h.status ≠ .idle) →
    y = { x with sequence := none, shortHold := true, pending := raised x.cfg.mask .stageShort x.pending,
                 last := ⟨(x.sequenceToward .up).origin, x.target, (x.sequenceToward .up).steps, .short⟩ }
  down : ∀ (j : Nat) (h : Stage), x.sequence ≠ none ∨ x.shortHold = false → x.target < x.c → x.stages[j]? = some h →
    h.status = .running → (∀ k, j < k → ∀ g, x.stages[k]? = some g → g.status ≠ .running) →
    y.FiguresExact ∧ y.c + 1 = x.c
      ∧ y = { x.withFiguresOf y with stages := y.stages, seq := .stepDown, sequence := some (x.sequenceToward .down),
                                     last := x.lastToward .down }
      ∧ ∀ k, y.stages[k]? = if k = j then
          some { h with status := .stopping, cause := none, proof := 0, rundown := x.cfg.rundownTicks } else x.stages[k]?

/-- A FREE zone holds its power-on values but for its pending set, and nothing names it (R28, R31). -/
def State.FreeZonesBare (s : State) : Prop :=
  ∀ z, z < 32 → (s.zone z).inUse = false →
    s.zone z = { Zone.powerOn with pending := (s.zone z).pending }
      ∧ (∀ b, b < 2048 → (s.bay b).cls ≠ .retired → (s.bay b).zone ≠ z)
      ∧ ∀ i, i < 32 → (s.sign i).zones.getLsbD z = false

/-- Every slot, stage and sign names a node of its kind, and no channel, fan, sign node, row or entrance is bound twice
(R54, R55, R58, R60, R149). -/
structure State.BindingsSound (s : State) : Prop where
  slots : ∀ z, z < 32 → ∀ g ∈ (s.zone z).slots, (s.node g.node).service = .gas
  stages : ∀ z, z < 32 → ∀ g ∈ (s.zone z).stages, (s.node g.node).service = .fan
  signs : ∀ i, i < 32 → ∀ id ∈ (s.sign i).node, (s.node id).service = .sign
  channelsOnce : ((List.range 32).flatMap fun z => (s.zone z).slots.map fun g => (g.node, g.channel)).Nodup
  fansOnce : ((List.range 32).flatMap fun z => (s.zone z).stages.map (·.node)).Nodup
  signsOnce : ((List.range 32).filterMap fun i => (s.sign i).node).Nodup
  rowsOnce : (s.nodes.filterMap fun e => e.2.service.rowBinding.map (·.1)).Nodup
  entrancesOnce : (s.nodes.filterMap fun e => e.2.service.answer.map (·.1)).Nodup

/-- A line is IDLE exactly while no record of it is bound (R64), and a visit in flight whose record has not been retired since
goes to a bound record (R68, R75). -/
def State.LinesFollowNodes (s : State) : Prop :=
  ∀ l, l < 4 → ((s.line l).state = .idle ↔ ∀ a, 1 ≤ a → a ≤ 63 → (s.node ⟨l, a⟩).state = .off)
    ∧ ∀ v ∈ (s.line l).visit, v.retired = false → (s.node ⟨l, v.address⟩).state ≠ .off

/-- While RESET is held every record has its power-on value (R185); the receive inputs, the commands that wait and the
model's counter of free choices are not the part's. -/
def State.HeldAtPowerOn (s : State) : Prop :=
  s.phase = .held →
    s = { State.reset with phase := .held, lines := s.lines, choices := s.choices, pending := s.pending }
      ∧ ∀ l, s.line l = { Line.powerOn with rxBreak := (s.line l).rxBreak }

/-! ## Field lines -/

/-- A zone that a node serves: NODE_SILENT and NODE_BACK of the node are raised in it (R88). -/
def State.Serves (s : State) (id : NodeId) (z : Nat) : Prop :=
  match (s.node id).service with
  | .row r n _ => ∃ i, i < n ∧ (s.bay (16 * r + i)).cls ≠ .retired ∧ (s.bay (16 * r + i)).zone = z
  | .gas => z < 32 ∧ ∃ g ∈ (s.zone z).slots, g.node = id
  | .fan => z < 32 ∧ ∃ g ∈ (s.zone z).stages, g.node = id
  | .none => False
  | .sign => False
  | .entry _ _ => False

/-- The characters of a reply to a visit to address `a`: start mark, address with the direction from node to part, control,
length, payload and CRC-8 (R187). -/
def replyChars (a control : Nat) (payload : List Byte) : List Char9 :=
  let body := u8 (128 + a) :: u8 control :: u8 payload.length :: payload
  startMark :: (body ++ [crc8 body]).map plainChar

/-- A visit of line `l` to a bound node of kind `k`, not retired since, is waiting for its reply (R70). -/
structure State.Waiting (s : State) (l : Nat) (v : Visit) (k : NodeKind) : Prop where
  running : s.phase ≠ .held
  line : l < 4
  scanning : (s.line l).state = .scanning
  sent : (s.line l).de = false
  visit : (s.line l).visit = some v
  current : v.retired = false
  kind : (s.node ⟨l, v.address⟩).service.kind = some k

/-- The fields of the state that a reply, a miss or a line event of the field cannot write. -/
structure State.FieldFrame (s t : State) : Prop where
  phase : t.phase = s.phase
  ticks : t.ticks = s.ticks
  ignoring : t.ignoring = s.ignoring
  routes : t.routes = s.routes
  site : t.site = s.site
  edit : t.edit = s.edit
  buffer : t.buffer = s.buffer
  miso : t.miso = s.miso
  pending : t.pending = s.pending
  cfg : ∀ z, (t.zone z).cfg = (s.zone z).cfg ∧ (t.zone z).inUse = (s.zone z).inUse
    ∧ (t.zone z).hostShed = (s.zone z).hostShed ∧ (t.zone z).hostFloor = (s.zone z).hostFloor
  signs : ∀ i, (s.sign i).SameFields (t.sign i)

/-- A visit of line `l` has ended and no other line has moved, with `State.FieldFrame`. -/
structure State.VisitEnded (s t : State) (l : Nat) : Prop where
  frame : s.FieldFrame t
  line : t.line l = { s.line l with visit := none }
  lines : ∀ i, i ≠ l → t.line i = s.line i

/-- A node record after a fresh report with toggle `tog` has been taken and answered with marker `m`: a SILENT node is LIVE
again, with output pending (R73, R79). -/
def Node.taken (n : Node) (tog : Bool) (m : Marker) : Node :=
  { n with state := if n.state = .silent then .live else n.state, misses := 0, marker := m,
           toggle := if tog = true then .zero else .one, outputPending := n.outputPending || decide (n.state = .silent) }

/-- Record `x` is zone `z` once a valid reply of node `id` is taken: NODE_BACK is raised in it when the node was SILENT and
serves the zone, and it is as it was otherwise (R73, R88). -/
def State.HeardZone (s : State) (id : NodeId) (z : Nat) (x : Zone) : Prop :=
  ((s.node id).state = .silent ∧ s.Serves id z → x = (s.zone z).raise .nodeBack)
    ∧ (¬ ((s.node id).state = .silent ∧ s.Serves id z) → x = s.zone z)

/-- `e` are the members of SITE once a valid reply of node `id` is taken: NODE_BACK is raised when the node was SILENT and
serves no zone (R73, R88). -/
def State.HeardSite (s : State) (id : NodeId) (e : EventSet) : Prop :=
  ((s.node id).state = .silent ∧ (∀ z, ¬ s.Serves id z) → e = raised s.site.mask .nodeBack s.sitePending)
    ∧ (¬ ((s.node id).state = .silent ∧ ∀ z, ¬ s.Serves id z) → e = s.sitePending)

/-- The nodes that meet `p` have gone SILENT, with the silence effects of R72 and nothing else of these records: a row's bays
in service DARK, a gas node's slots stale with S and the band kept, an entry node's answer abandoned, and the stage that a fan
node runs FAULTED with cause SILENT. The effects have no order among themselves (R72, R82), so that a RUNNING stage may have
gone STOPPING before its own node's silence, by the fall of the zone's demand, and silence leaves a STOPPING stage alone
(R119). -/
structure State.Silenced (s t : State) (p : NodeId → Bool) : Prop where
  states : ∀ id : NodeId, id.Exists → (t.node id).state = if p id = true then .silent else (s.node id).state
  kept : ∀ id : NodeId, id.Exists → (t.node id).toggle = (s.node id).toggle ∧ (t.node id).marker = (s.node id).marker
    ∧ (t.node id).service.kind = (s.node id).service.kind
    ∧ (t.node id).service.rowBinding = (s.node id).service.rowBinding
  answers : ∀ (id : NodeId) (e : Nat) (a : Answer), id.Exists → (s.node id).service = .entry e a →
    (t.node id).service = .entry e (if p id = true then .ready else a)
  darkened : ∀ (b : Nat) (id : NodeId) (r n : Nat) (g : LightSet), id.Exists → p id = true →
    (s.node id).service = .row r n g → b / 16 = r →
    t.bay b = if (s.bay b).cls = .retired ∨ (s.bay b).census = .dark then s.bay b
      else { s.bay b with census := .dark, stateTimer := 0 }
  bays : ∀ b, (∀ (id : NodeId) (r n : Nat) (g : LightSet), id.Exists → p id = true → (s.node id).service = .row r n g →
    b / 16 ≠ r) → t.bay b = s.bay b
  slots : ∀ z, z < 32 → (t.zone z).slots = (s.zone z).slots.map fun g =>
    if p g.node = true ∧ (s.node g.node).service = .gas then { g with fresh := false, age := 0 } else g
  fume : ∀ z, (t.zone z).S = (s.zone z).S ∧ (t.zone z).band = (s.zone z).band
  stages : ∀ (z i : Nat) (g : Stage), z < 32 → (s.zone z).stages[i]? = some g → p g.node = true →
    (s.node g.node).service = .fan → g.status = .starting ∨ g.status = .running →
    (∀ (j : Nat) (h : Stage), (s.zone z).stages[j]? = some h → h.node = g.node → j = i) →
    (t.zone z).stages[i]? = some { g with status := .faulted, cause := some .silent, proof := 0, rundown := 0 }
      ∨ (g.status = .running ∧ (t.zone z).stages[i]?
          = some { g with status := .stopping, cause := none, proof := 0, rundown := (s.zone z).cfg.rundownTicks })
  tallies : s.TalliesAgree → t.TalliesAgree

end Sys2Proof.Machine
end

