-- ==== Sys2Proof/Certificates/Slice0/Obligations.lean ====
section
/-! DEFINITION. The statements for the provers, from the numbered rules of the spec. -/

open Sys2Proof Sys2Proof.Machine

/-! ## The machine as a whole -/

/-- A step takes the command at the front of the queue and carries it out on the state with the queue's rest; on an empty
queue the part idles. The queue is the model's (log entry 1). -/
def Obligations.StepRunsFrontCommand : Prop :=
  (∀ (c : Instr) (cs : List Instr) (s : State), step { s with pending := c :: cs } = exec c { s with pending := cs })
    ∧ ∀ s : State, s.pending = [] → step s = .next s

/-- Every command is carried out to a next state, and none touches the commands that wait. The queue, which RESET leaves too,
is the model's (log entry 1), and so is that an event without its cause (log entry 4) and a term that no frame carries (log
entry 15) answer a next state; the spec's own part is that each row is one step (95_what_each_step_holds.md). -/
def Obligations.EveryCommandCompletes : Prop :=
  ∀ (c : Instr) (s : State), ∃ t, exec c s = .next t ∧ t.pending = s.pending

/-- RESET asserted, and RESET released or the supply coming up, leave every record at its power-on value, whole, as the state
after reset has them (R25, R37, R39, R43, R62, R63, R65, R129, R159, R178, R182, R185; log entries 2 and 12 for the state
after reset and a release in any state, log entry 7 for the receive input). -/
def Obligations.PowerOnRecords : Prop :=
  ∀ s : State, ∃ t u, exec .resetAssert s = .next t ∧ exec .resetRelease s = .next u
    ∧ t.phase = .held ∧ u.phase = .startUp ∧ State.reset.phase = .startUp
    ∧ ∀ x ∈ [t, u, State.reset],
      x.ticks = 0 ∧ x.ignoring = false
        ∧ (∀ b, x.bay b = { zone := 0, cls := .retired, closed := false, census := .dark, stateTimer := 0, hold := none })
        ∧ (∀ z, x.zone z =
            { inUse := false
              cfg := { level := 1, lo := 300, hi := 900, raisedOn := 500, highOn := 800, purgeOn := 1200, bandH := 50, kRise := 1,
                       kFall := 3, loadWeight := 40, demandH := 100, blindStage := 2, staleTicks := 150, proofTicks := 150,
                       rundownTicks := 100, dwellUp := 300, dwellDown := 600, mask := 0x07FF#16 }
              hostShed := false, hostFloor := 0, tallies := ⟨0, 0, 0, 0, 0, 0, 0, 0, 0, 0, 0, 0⟩, slots := [], I := 0, S := 0
              band := .clear, blind := false, L := 0, T := 0, P := 0, D := 0, computed := 0, bandFloor := 0, blindFloor := 0
              hostFloorClamped := 0, target := 0, stages := [], seq := .idle, dwell := 0, sequence := none
              shortHold := false, last := ⟨0, 0, 0, .none⟩, pending := 0#16 })
        ∧ (∀ e z, x.route e z = 255)
        ∧ x.site = { settleTicks := 300, departTicks := 200, holdTicks := 1800, raisedPenalty := 60, holdWeight := 4, base := 3,
                     guide := 15, active := 15, parked := 6, aisleIdle := 4, aisleActive := 15, aisleTicks := 600,
                     mask := 0xFE00#16 }
        ∧ x.sitePending = 0#16 ∧ x.edit = none
        ∧ (∀ l, x.line l = { state := .idle, scan := 0, visit := none, de := false, breakMeasure := 0,
                             rxBreak := (x.line l).rxBreak, probe := none, watch := false })
        ∧ (∀ id, x.node id = { service := .none, state := .off, misses := 0, toggle := .any, marker := .none,
                               outputPending := false })
        ∧ (∀ i, x.sign i = { node := none, mode := .off, zones := 0#32, filter := .all, text := [], value := 0 })
        ∧ x.buffer = none ∧ x.miso = []
        ∧ x.out = { rdy := false, attn := false, purge := true, fault := false, misoDriven := false }

/-- The end of the start-up time takes the part into service, and does nothing at another moment (R185; log entry 4). Until
then host transactions are ignored, and so is one that was in progress at that end, when it ends (R185); whether there is one
is a free value (log entry 3). While RESET is held every other command but the release and the movement of a receive input is
ignored (R185; log entry 7). -/
def Obligations.StartUpAndResetGateTheCommands : Prop :=
  ∀ s : State,
    (∃ begun, exec .startUpEnd s
      = .next (if s.phase = .startUp then { s with phase := .running, ignoring := begun, choices := s.choices + 1 } else s))
    ∧ (s.phase = .running → s.ignoring = true →
      (∀ (c : Instr) (code : Nat) (params : List Byte), c.request = some (code, params) →
        exec c s = .next { s with ignoring := false })
      ∧ (∀ n, 1 ≤ n → exec (.read n) s = .next { s with ignoring := false })
      ∧ ∀ bytes, bytes ≠ [] → exec (.malformedRequest bytes) s = .next { s with ignoring := false })
    ∧ (s.phase ≠ .running →
      (∀ (c : Instr) (code : Nat) (params : List Byte), c.request = some (code, params) → exec c s = .next s)
      ∧ (∀ n, exec (.read n) s = .next s) ∧ ∀ bytes, exec (.malformedRequest bytes) s = .next s)
    ∧ (s.phase = .held → ∀ c : Instr, c ≠ .resetAssert → c ≠ .resetRelease → (∀ l b, c ≠ .breakLevelChange l b) →
      exec c s = .next s)

/-- The state after reset is legal, and everything that holds at all times holds in it. Of a held RESET, which the state after
reset does not show, the state that RESET_ASSERT leaves has every record at its power-on value (R185). -/
def Obligations.ResetIsLegal : Prop :=
  State.reset.Legal ∧ State.reset.OutputsExact ∧ State.reset.TalliesAgree ∧ State.reset.SignsExact
    ∧ State.reset.LightsExact ∧ State.reset.UnwatchedDark ∧ State.reset.SequencersLegal
    ∧ (∀ z, (State.reset.zone z).FiguresExact) ∧ State.reset.FreeZonesBare ∧ State.reset.BindingsSound
    ∧ State.reset.LinesFollowNodes ∧ State.reset.HeldAtPowerOn
    ∧ ∀ s t : State, s.Legal → exec .resetAssert s = .next t → t.phase = .held ∧ t.HeldAtPowerOn

/-! ## What every step keeps -/

/-- Every step keeps every table canonical and every record within its ranges (R1, R29, R40, R44, R63, R65, R91, R132, R149,
R171). -/
def Obligations.RecordsStayLegal : Prop := ∀ s t : State, s.Legal → step s = .next t → t.Legal

/-- Every step leaves the pins PURGE, FAULT, ATTN and RDY as R127, R128, R176 and R182 say. -/
def Obligations.OutputsFollowRecords : Prop := ∀ s t : State, s.OutputsExact → step s = .next t → t.OutputsExact

/-- Every step keeps the tallies of every zone equal to the counts of its bays (R17, R18). -/
def Obligations.TalliesFollowBays : Prop :=
  ∀ s t : State, s.Legal → s.TalliesAgree → step s = .next t → t.TalliesAgree

/-- Every step keeps the computed value of every sign equal to R150 over the counts as they stand (R150, R151). A step that
changes the value of a sign in COUNT mode sets output pending on the node that the sign names (R153). -/
def Obligations.SignsFollowCounts : Prop :=
  (∀ s t : State, s.Legal → s.SignsExact → step s = .next t → t.SignsExact)
  ∧ ∀ (s t : State) (i : Nat) (id : NodeId), s.Legal → step s = .next t → i < 32 → (t.sign i).mode = .count →
    (t.sign i).node = some id → (t.sign i).value ≠ (s.sign i).value → (t.node id).state ≠ .off →
    (t.node id).outputPending = true

/-- Every step keeps every light set equal to the one R161 to R163 derive (R165, R166, R169). A step that changes an entry or
the aisle level of the light set of a ROW node sets output pending on it (R166), and so does a step that changes the output
content of any node: a FAN node whose stage changes between RUN and STOP, an ENTRY node whose answer is given, closed,
abandoned or re-derived, a SIGN node whose sign is rewritten (R52, R67, R117, R133, R138, R153). -/
def Obligations.LightsFollowRecords : Prop :=
  (∀ s t : State, s.Legal → s.LightsExact → step s = .next t → t.LightsExact)
  ∧ (∀ (s t : State) (id : NodeId) (r n : Nat) (g h : LightSet), s.Legal → step s = .next t → id.Exists →
    (s.node id).service = .row r n g → (t.node id).service = .row r n h → g.bays ≠ h.bays ∨ g.aisle ≠ h.aisle →
    (t.node id).outputPending = true)
  ∧ ∀ (s t : State) (id : NodeId), s.Legal → step s = .next t → id.Exists → (t.node id).state ≠ .off →
    t.content id ≠ s.content id → (t.node id).outputPending = true

/-- Every step keeps every bay in service DARK that no LIVE row node on a SCANNING line reports (R8). -/
def Obligations.UnwatchedBaysStayDark : Prop :=
  ∀ s t : State, s.Legal → s.UnwatchedDark → step s = .next t → t.UnwatchedDark

/-- Every step keeps at most one stage of a zone STARTING or STOPPING, as the state of its sequencer says (R114, R117,
R120). -/
def Obligations.OneStepAtATime : Prop :=
  ∀ s t : State, s.Legal → s.SequencersLegal → step s = .next t → t.SequencersLegal

/-- Every step keeps the demand figures of every zone equal to R110, R111, R113 and R114 over the inputs as they stand
(R112). -/
def Obligations.FiguresFollowInputs : Prop :=
  ∀ s t : State, s.Legal → (∀ z, z < 32 → (s.zone z).FiguresExact) → step s = .next t →
    ∀ z, z < 32 → (t.zone z).FiguresExact

/-- Every step keeps every binding to a node of its kind, and none bound twice (R54, R55, R58, R60, R154); it keeps a FREE
zone at its power-on values but for its pending set and named by nothing (R28, R31), a line IDLE exactly while none of its
records is bound (R64), and every record at its power-on value while RESET is held (R185). -/
def Obligations.BindingsStaySound : Prop :=
  ∀ s t : State, s.Legal → step s = .next t →
    (s.BindingsSound → t.BindingsSound) ∧ (s.FreeZonesBare → t.FreeZonesBare)
      ∧ (s.LinesFollowNodes → t.LinesFollowNodes) ∧ (s.HeldAtPowerOn → t.HeldAtPowerOn)

/-! ## The host link -/

/-- The frame of every request that can reach the part is judged to be that request; the frame of a code that is none of the
part's is judged UNKNOWN (R180, R186, R190). Only the frame of a request is judged to be that request: no bit of a frame is
dropped (R180, R186, R190). A transaction of no byte is nothing, one whose first byte is READ is a read of all its bytes, and
any other is the request its bytes are judged to be (R179). -/
def Obligations.RequestFramesAreTakenExactly : Prop :=
  (∀ (c : Instr) (code : Nat) (params : List Byte), c.wf = true → c.request = some (code, params) →
    judge (requestFrame code params) = (if knownCode code = true then .request c else .unknown code params))
  ∧ (∀ (bytes : List Byte) (c : Instr), judge bytes = .request c →
    c.wf = true ∧ ∃ code params, c.request = some (code, params) ∧ knownCode code = true ∧ bytes = requestFrame code params)
  ∧ (transactionOf [] = none ∧ (∀ rest : List Byte, transactionOf (0x3C#8 :: rest) = some (.read (1 + rest.length)))
    ∧ (∀ (c : Instr) (code : Nat) (params : List Byte), c.wf = true → c.request = some (code, params) →
      transactionOf (requestFrame code params) = some c)
    ∧ ∀ (bytes : List Byte) (c : Instr), transactionOf bytes = some c → c.wf = true)

/-- A request that is taken and not carried out changes nothing but the response placed (R181). A frame of an unknown code is
refused with UNKNOWN and echoes the code; bytes that are no frame are refused with FRAME and echo the second byte, 0 when
there is none (R180, R181). A bay, row, zone, entrance, stage, line, address or sign number outside its range, and a class of
HOLD_PLACE best that is not offerable, are refused with RANGE (R21 to R24, R31, R33, R35, R39, R54 to R57, R89, R126, R145,
R146, R156). -/
def Obligations.RefusedRequestsChangeNothing : Prop :=
  (∀ (c : Instr) (s t : State) (code : Nat) (params : List Byte) (r : Response), s.Ready → s.OutputsExact →
    c.request = some (code, params) → exec c s = .next t → t.buffer = some r → r.reason ≠ .done →
    t = s.onlyAnswered (5 + params.length) code r.reason r.payload)
  ∧ (∀ s : State, s.Ready → s.OutputsExact →
    (∀ code params, exec (.unknownRequest code params) s
      = .next (s.onlyAnswered (5 + params.length) code .unknown []))
    ∧ (∀ b : Byte, b ≠ 0x3C#8 → exec (.malformedRequest [b]) s = .next (s.onlyAnswered 1 0 .frame []))
    ∧ ∀ (b0 b1 : Byte) (rest : List Byte), b0 ≠ 0x3C#8 →
      exec (.malformedRequest (b0 :: b1 :: rest)) s = .next (s.onlyAnswered (2 + rest.length) b1.toNat .frame []))
  ∧ (∀ s : State, s.Ready → s.OutputsExact →
    (∀ b, 2048 ≤ b →
      (∀ p ∈ [(Instr.getBay b, 1), (.bayClose b, 3), (.bayOpen b, 4), (.holdRelease b, 5)],
        exec p.1 s = .next (s.onlyAnswered 7 p.2 .range []))
      ∧ ∀ k, exec (.holdPlaceByBay b k) s = .next (s.onlyAnswered 9 27 .range []))
    ∧ (∀ r, 128 ≤ r → exec (.getRow r) s = .next (s.onlyAnswered 6 2 .range []))
    ∧ (∀ z, 32 ≤ z →
      (∀ p ∈ [(Instr.zoneShed z, 7), (.zoneUnshed z, 8), (.getZone z, 9)],
        exec p.1 s = .next (s.onlyAnswered 6 p.2 .range []))
      ∧ ∀ cfg, exec (.zoneSetFree z cfg) s = .next (s.onlyAnswered 36 6 .range []))
    ∧ (∀ e, 8 ≤ e → exec (.getRoutes e) s = .next (s.onlyAnswered 6 11 .range []))
    ∧ (∀ z n, ¬ (z < 32 ∧ 1 ≤ n ∧ n ≤ 4) → exec (.fanReset z n) s = .next (s.onlyAnswered 7 26 .range []))
    ∧ (∀ e k ticket, ¬ (e < 8 ∧ k ≤ 3 ∧ ticket ≤ 65535) →
      exec (.holdPlaceBest e k ticket) s = .next (s.onlyAnswered 9 28 .range []))
    ∧ (∀ l a, ¬ (l < 4 ∧ 1 ≤ a ∧ a ≤ 63) →
      (∀ p ∈ [(Instr.nodeRetire l a, 19), (.nodeBar l a, 20), (.nodeUnbar l a, 21), (.getNode l a, 24)],
        exec p.1 s = .next (s.onlyAnswered 7 p.2 .range []))
      ∧ ∀ k b1 b2, exec (.nodeBind l a k b1 b2) s = .next (s.onlyAnswered 10 18 .range []))
    ∧ ∀ i, 32 ≤ i → exec (.getSign i) s = .next (s.onlyAnswered 6 30 .range []))

/-- A request transaction that ends while the buffer holds a response is lost: the OVERRUN mark is set, nothing else of the
part changes (R182), and the data output is released at its end (R179). -/
def Obligations.OverrunLosesTheRequest : Prop :=
  ∀ (s : State) (r : Response), s.phase = .running → s.ignoring = false → s.buffer = some r →
    (∀ (c : Instr) (code : Nat) (params : List Byte), c.request = some (code, params) →
      exec c s = .next { s with buffer := some { r with overrun := true },
                                miso := List.replicate (5 + params.length) 0xFF#8,
                                out := { s.out with misoDriven := false } })
    ∧ ∀ (b : Byte) (rest : List Byte), b ≠ 0x3C#8 →
      exec (.malformedRequest (b :: rest)) s = .next { s with buffer := some { r with overrun := true },
                                                              miso := List.replicate (1 + rest.length) 0xFF#8,
                                                              out := { s.out with misoDriven := false } }

/-- A read of at least one byte and the whole frame sends it and empties the buffer; a shorter read sends its first bytes and
leaves it; a read of the empty buffer sends the empty frame and changes nothing else (R183, R186). What the host sends after
the first byte of a read is ignored (R179). -/
def Obligations.ReadSendsTheResponse : Prop :=
  ∀ (s : State) (n : Nat), s.phase = .running → s.ignoring = false → s.OutputsExact → 1 ≤ n →
    (∀ rest : List Byte, rest.length + 1 = n → exec (.malformedRequest (0x3C#8 :: rest)) s = exec (.read n) s) ∧
    (∀ r, s.buffer = some r →
      let body := u8 ((if r.reason = .done then 0 else 1) + (if r.overrun = true then 128 else 0)) :: u8 r.code
        :: u8 r.reason.code :: u8 r.payload.length :: r.payload
      let frame := body ++ u16 (crc16 body).toNat
      (1 + frame.length ≤ n →
        exec (.read n) s = .next { s with buffer := none, out := { s.out with rdy := false },
                                          miso := 0xFF#8 :: frame ++ List.replicate (n - 1 - frame.length) 0xFF#8 })
      ∧ (n < 1 + frame.length → exec (.read n) s = .next { s with miso := (0xFF#8 :: frame).take n }))
    ∧ (s.buffer = none → ∃ out : List Byte, exec (.read n) s = .next { s with miso := out } ∧ out.length = n
        ∧ ∀ i, i < n → out.getD i 0#8
          = (0xFF#8 :: ([3#8, 0#8, 0#8, 0#8] ++ u16 (crc16 [3#8, 0#8, 0#8, 0#8]).toNat)).getD i 0xFF#8)

/-! ## Requests that read records -/

/-- GET_BAY answers the bay's record in twelve bytes and GET_ROW the sixteen records of the row, each in ten bytes, in
ascending order; neither changes anything else (R21, R22, R189). The bits that the layout does not name are 0 by the model's
choice (log entry 32). -/
def Obligations.GetBayAndGetRowReturnTheRecords : Prop :=
  ∀ s : State, s.Ready → s.OutputsExact →
    (∀ b, b < 2048 → ∃ p, exec (.getBay b) s = .next (s.onlyAnswered 7 1 .done p) ∧ p.length = 12 ∧ p.take 2 = u16 b
      ∧ p.drop 2 = bayBytes (s.bay b) (s.offered (s.bay b)))
    ∧ ∀ r, r < 128 → ∃ p, exec (.getRow r) s = .next (s.onlyAnswered 6 2 .done p) ∧ p.length = 161 ∧ p.take 1 = [u8 r]
      ∧ ∀ i, i < 16 → (p.drop (1 + 10 * i)).take 10 = bayBytes (s.bay (16 * r + i)) (s.offered (s.bay (16 * r + i)))

/-- GET_ZONE answers the zone record in 96 + 10k + 6m bytes, every field at its place, for k slots of ten bytes and m stages
of six; GET_ROUTES answers the entrance and its 32 costs; GET_SITE answers the site record, part code 640 and revision letter
A. None changes anything else (R35, R39, R43, R191). With no sequence in progress the origin, goal and steps bytes are 0 by
the model's choice (log entry 29). GET_NODE answers seven bytes and the part that follows the node's kind: row and bay count,
entrance and answer state, the slots, the stage or the sign that name it. GET_SIGN answers the sign record and, of a sign that
names a node, the content a command would carry and the node's state and output pending mark. Neither changes anything else
(R89, R156, R191). The bits that the layouts do not name are 0 by the model's choice (log entry 32). -/
def Obligations.ReadRequestsReturnTheRecords : Prop :=
  (∀ s : State, s.Ready → s.OutputsExact →
    (∀ z, z < 32 →
      let x := s.zone z
      let k := x.slots.length
      let m := x.stages.length
      ∃ p, exec (.getZone z) s = .next (s.onlyAnswered 6 9 .done p) ∧ p.length = 96 + 10 * k + 6 * m
      ∧ p.take 3 = [u8 z, u8 (flagCode x.inUse), u8 (flagCode x.shed)]
      ∧ (p.drop 3).take 29 = x.cfg.bytes ∧ (p.drop 32).take 2 = [u8 (flagCode x.hostShed), u8 x.hostFloor]
      ∧ (p.drop 34).take 24 = u16 x.tallies.capacity ++ u16 x.tallies.vacant ++ u16 x.tallies.arriving
          ++ u16 x.tallies.parked ++ u16 x.tallies.leaving ++ u16 x.tallies.dark ++ u16 x.tallies.holds
          ++ u16 x.tallies.closed ++ u16 x.tallies.offeredStandard ++ u16 x.tallies.offeredCompact
          ++ u16 x.tallies.offeredAccessible ++ u16 x.tallies.offeredCharging
      ∧ (p.drop 58).take 1 = [u8 k]
      ∧ (∀ (i : Nat) (g : Slot), x.slots[i]? = some g → (p.drop (59 + 10 * i)).take 10
          = [u8 g.node.line, u8 g.node.address, u8 g.channel] ++ u16 g.ref ++ u16 g.n ++ [u8 (flagCode g.fresh)] ++ u16 g.age)
      ∧ (p.drop (59 + 10 * k)).take 6 = u16 x.I ++ u16 x.S ++ [u8 x.band.code, u8 (flagCode x.blind)]
      ∧ (p.drop (65 + 10 * k)).take 13 = u16 x.L ++ u16 x.T ++ u16 x.P ++ u16 x.D
          ++ [u8 x.computed, u8 x.bandFloor, u8 x.blindFloor, u8 x.hostFloorClamped, u8 x.target]
      ∧ (p.drop (78 + 10 * k)).take 1 = [u8 m]
      ∧ (∀ (i : Nat) (g : Stage), x.stages[i]? = some g → (p.drop (79 + 10 * k + 6 * i)).take 6
          = [u8 g.node.line, u8 g.node.address, u8 g.status.code, u8 (causeCode g.cause)]
            ++ u16 (if g.status = .starting then g.proof else if g.status = .stopping then g.rundown else 0))
      ∧ p.drop (79 + 10 * k + 6 * m) = [u8 x.c, u8 x.seq.code] ++ u16 x.dwell
          ++ (match x.sequence with
            | some q => [u8 q.dir.code, u8 q.origin, u8 q.goal, u8 q.steps]
            | none => [0#8, 0#8, 0#8, 0#8])
          ++ [u8 (flagCode x.shortHold), u8 x.last.origin, u8 x.last.goal, u8 x.last.steps, u8 x.last.outcome.code]
          ++ maskBytes x.pending ++ maskBytes x.cfg.mask)
    ∧ (∀ e, e < 8 → ∃ p, exec (.getRoutes e) s = .next (s.onlyAnswered 6 11 .done p) ∧ p.length = 33 ∧ p.take 1 = [u8 e]
      ∧ ∀ z, z < 32 → p.getD (1 + z) 0#8 = u8 (s.route e z))
    ∧ exec .getSite s = .next (s.onlyAnswered 5 13 .done (s.site.bytes ++ [2#8, 128#8, 65#8])))
  ∧ (∀ s : State, s.Ready → s.OutputsExact →
    (∀ l a, l < 4 → 1 ≤ a → a ≤ 63 →
      let id : NodeId := ⟨l, a⟩
      let n := s.node id
      ∃ p, exec (.getNode l a) s = .next (s.onlyAnswered 7 24 .done p)
      ∧ p.take 6 = [u8 (s.line l).state.code, u8 n.service.kindCode, u8 n.state.code, u8 n.misses, u8 n.toggle.code,
          u8 n.marker.code]
      ∧ (byteAt p 6 < 4 ∧ ((byteAt p 6).testBit 0 = true ↔ n.outputPending = true)
        ∧ ((byteAt p 6).testBit 1 = true ↔ ∃ v, (s.line l).visit = some v ∧ v.address = a))
      ∧ (n.service = .none → p.length = 7)
      ∧ (∀ r k lights, n.service = .row r k lights → p.drop 7 = [u8 r, u8 k])
      ∧ (∀ e x, n.service = .entry e x → p.drop 7 = [u8 e, if x = .ready then 0#8 else 1#8])
      ∧ (n.service = .gas → ∃ ns : List (Nat × Nat × Nat),
          p.drop 7 = u8 ns.length :: (ns.flatMap fun e => [u8 e.1, u8 e.2.1, u8 e.2.2]) ∧ ns.Nodup
          ∧ ∀ z i ch, (z, i + 1, ch) ∈ ns ↔ z < 32 ∧ ∃ g, (s.zone z).slots[i]? = some g ∧ g.node = id ∧ g.channel = ch)
      ∧ (n.service = .fan → (∀ z, z < 32 → ∀ g ∈ (s.zone z).stages, g.node ≠ id) → p.drop 7 = [0#8])
      ∧ (∀ (z i : Nat) (g : Stage), n.service = .fan → z < 32 → (s.zone z).stages[i]? = some g → g.node = id →
          (∀ (y j : Nat) (h : Stage), y < 32 → (s.zone y).stages[j]? = some h → h.node = id → y = z ∧ j = i) →
          p.drop 7 = [1#8, u8 z, u8 (i + 1)])
      ∧ (n.service = .sign → (∀ i, i < 32 → (s.sign i).node ≠ some id) → p.drop 7 = [255#8])
      ∧ ∀ i, n.service = .sign → i < 32 → (s.sign i).node = some id →
          (∀ j, j < 32 → (s.sign j).node = some id → j = i) → p.drop 7 = [u8 i])
    ∧ ∀ i, i < 32 →
      let g := s.sign i
      ∃ p, exec (.getSign i) s = .next (s.onlyAnswered 6 30 .done p)
      ∧ p.take 1 = [u8 i] ∧ (g.node = none → (p.drop 2).take 1 = [0#8])
      ∧ (p.drop 3).take 6 = u8 g.mode.code :: zoneSetBytes g.zones ++ [u8 g.filter.code]
      ∧ (p.drop 9).take (3 + g.text.length) = u8 g.text.length :: g.text ++ u16 g.value
      ∧ ∀ id, g.node = some id → (p.drop 1).take 2 = [u8 id.line, u8 id.address]
        ∧ p.drop (12 + g.text.length)
          = (match g.mode with
            | .off => [0#8]
            | .count => 1#8 :: u16 g.value ++ [if g.value = 0 then 1#8 else 0#8]
            | .text => 2#8 :: u8 g.text.length :: g.text)
            ++ [u8 (s.node id).state.code, u8 (flagCode (s.node id).outputPending)])

/-! ## The census (chapter 1) -/

/-- BAY_CLOSE and BAY_OPEN write the closed flag of a bay in service, with the hand-overs of R18, and nothing else of the bay;
a flag that has the value already changes nothing; a RETIRED bay is refused with STATE (R23). HOLD_RELEASE ends the hold of a
bay, whoever placed it, and a bay without a hold is refused with STATE (R15, R24). -/
def Obligations.CloseOpenAndReleaseChangeTheBay : Prop :=
  ∀ (s : State) (b : Nat), s.Ready → s.OutputsExact → b < 2048 →
    (∀ (c : Instr) (code : Nat) (f : Bool), (c, code, f) ∈ [(Instr.bayClose b, 3, true), (.bayOpen b, 4, false)] →
      ((s.bay b).cls = .retired → exec c s = .next (s.onlyAnswered 7 code .state []))
      ∧ ((s.bay b).cls ≠ .retired → (s.bay b).closed = f → exec c s = .next (s.onlyAnswered 7 code .done []))
      ∧ ((s.bay b).cls ≠ .retired → (s.bay b).closed ≠ f →
          ∃ t, exec c s = .next t ∧ t.AnsweredDone code [] ∧ s.BayChange t b { s.bay b with closed := f }))
    ∧ ((s.bay b).hold = none → exec (.holdRelease b) s = .next (s.onlyAnswered 7 5 .state []))
    ∧ ((s.bay b).hold ≠ none →
        ∃ t, exec (.holdRelease b) s = .next t ∧ t.AnsweredDone 5 [] ∧ s.BayChange t b { s.bay b with hold := none })

/-- The settle timer at 0 takes an ARRIVING bay to PARKED and the depart timer at 0 a LEAVING bay to VACANT, that bay alone
(R6, R7). A hold whose timer is at 0 lapses: the hold is gone, HOLD_LAPSED is in the zone's pending set where its mask has it,
and nothing else of the bay changes (R12, R172). -/
def Obligations.BayTimersMoveTheBay : Prop :=
  ∀ (s : State) (b : Nat), s.phase ≠ .held →
    ((s.bay b).stateTimer = 0 → (s.bay b).census = .arriving →
      ∃ t, exec (.settleTimerExpiry b) s = .next t ∧ t.buffer = s.buffer
        ∧ s.BayChange t b { s.bay b with census := .parked, stateTimer := 0 })
    ∧ ((s.bay b).stateTimer = 0 → (s.bay b).census = .leaving →
      ∃ t, exec (.departTimerExpiry b) s = .next t ∧ t.buffer = s.buffer
        ∧ s.BayChange t b { s.bay b with census := .vacant, stateTimer := 0 })
    ∧ ∀ h, (s.bay b).hold = some h → h.timer = 0 →
      ∃ t, exec (.holdTimerExpiry b) s = .next t ∧ t.buffer = s.buffer ∧ s.BayChange t b { s.bay b with hold := none }
        ∧ (t.zone (s.bay b).zone).pending.getLsbD 8
            = ((s.zone (s.bay b).zone).pending.getLsbD 8 || (s.zone (s.bay b).zone).cfg.mask.getLsbD 8)

/-- A change of one bay raises FULL in the bay's zone exactly when the offered sum falls from above 0 to 0, and OPEN exactly
when it rises from 0, where the zone's mask has the kind. So does every other command in every zone whatever its cause: a row
report, darkness by silence, bar or retirement, a hold of any cause, a shed or unshed zone, a change of band, of the zone's
settings or of its layout (R20, R172). Of a ZONE_SET, which moves the mask too, the event is judged under the mask that the
zone has after it: that is the model's choice (log entry 11). CLEAR and EVENTS_TAKE empty the sets themselves and RESET
returns them to power-on (R178, R174, R185). -/
def Obligations.FullAndOpenFollowTheOfferedSum : Prop :=
  (∀ (s t : State) (b ticket : Nat) (c : Instr),
    c ∈ [Instr.bayClose b, .bayOpen b, .holdRelease b, .settleTimerExpiry b, .departTimerExpiry b, .holdTimerExpiry b,
      .holdPlaceByBay b ticket] →
    exec c s = .next t →
    let x := s.zone (s.bay b).zone
    let y := t.zone (s.bay b).zone
    y.pending.getLsbD 2
        = (x.pending.getLsbD 2
            || (x.cfg.mask.getLsbD 2 && decide (0 < x.tallies.offeredSum) && decide (y.tallies.offeredSum = 0)))
      ∧ y.pending.getLsbD 3
        = (x.pending.getLsbD 3
            || (x.cfg.mask.getLsbD 3 && decide (x.tallies.offeredSum = 0) && decide (0 < y.tallies.offeredSum))))
  ∧ (∀ (s t : State) (c : Instr) (z : Nat), s.Legal → s.TalliesAgree → z < 32 → c ≠ .clear → c ≠ .resetAssert →
    c ≠ .resetRelease → (∀ n m, c ≠ .eventsTake n m) → exec c s = .next t →
    let x := s.zone z
    let y := t.zone z
    y.pending.getLsbD 2
        = (x.pending.getLsbD 2
            || (y.cfg.mask.getLsbD 2 && decide (0 < x.tallies.offeredSum) && decide (y.tallies.offeredSum = 0)))
      ∧ y.pending.getLsbD 3
        = (x.pending.getLsbD 3
            || (y.cfg.mask.getLsbD 3 && decide (x.tallies.offeredSum = 0) && decide (0 < y.tallies.offeredSum))))

/-- What a selection chooses: the candidate zone of lowest cost, the lowest zone among equals, and in it the lowest offered
bay of the class, a COMPACT bay for STANDARD where there is none; it finds a bay whenever some zone is a candidate (R140 to
R143). -/
def Obligations.SelectionChoosesTheCheapestZone : Prop :=
  ∀ (s : State) (e : Nat) (c : BayClass), s.Legal → s.TalliesAgree →
    let candidate := fun z => z < 32 ∧ (s.zone z).inUse = true ∧ (s.zone z).shed = false ∧ s.route e z ≠ 255
      ∧ 1 ≤ acceptable c (s.zone z).tallies
    let cost := fun z => s.route e z + (if (s.zone z).band = .raised then s.site.raisedPenalty else 0)
      + (s.zone z).tallies.holds * s.site.holdWeight
    (s.selection e c = none → ∀ z, ¬ candidate z)
    ∧ ∀ b, s.selection e c = some b →
      let best := (s.bay b).zone
      candidate best
        ∧ (∀ z, candidate z → cost best < cost z ∨ (cost best = cost z ∧ best ≤ z))
        ∧ s.offered (s.bay b) = true
        ∧ ((s.bay b).cls = c ∨ (c = .standard ∧ (s.bay b).cls = .compact
            ∧ ∀ i, (s.bay i).zone = best → (s.bay i).cls = .standard → s.offered (s.bay i) = false))
        ∧ ∀ i, i < b → (s.bay i).zone = best → (s.bay i).cls = (s.bay b).cls → s.offered (s.bay i) = false

/-- HOLD_PLACE by bay places a hold of entrance 8 on a bay that is offered, or on a STAFF bay that is open, VACANT, without a
hold and in an IN_USE zone, with the full hold timer; any other bay is refused with STATE (R10, R11, R145). HOLD_PLACE best
places a hold of entrance 8 on the bay that the selection chooses, and is refused with NO_BAY where it chooses none (R144,
R146). -/
def Obligations.HoldPlacePlacesAHostHold : Prop :=
  (∀ (s : State) (b ticket : Nat), s.Ready → s.OutputsExact → b < 2048 → ticket ≤ 65535 →
    let x := s.bay b
    let z := s.zone x.zone
    let free := x.closed = false ∧ x.census = .vacant ∧ x.hold = none ∧ z.inUse = true
    let allowed := free ∧ (x.cls = .staff ∨ (x.cls ≠ .retired ∧ ¬ (z.hostShed = true ∨ z.band = .high ∨ z.band = .purge)))
    (allowed → ∃ t, exec (.holdPlaceByBay b ticket) s = .next t
      ∧ t.AnsweredDone 27 (u16 b ++ [u8 x.zone, u8 z.cfg.level] ++ u16 s.site.holdTicks)
      ∧ s.BayChange t b { x with hold := some ⟨ticket, 8, s.site.holdTicks⟩ })
    ∧ (¬ allowed → exec (.holdPlaceByBay b ticket) s = .next (s.onlyAnswered 9 27 .state [])))
  ∧ (∀ (s : State) (e k ticket : Nat) (c : BayClass), s.Ready → s.OutputsExact → e < 8 → ticket ≤ 65535 → k ≤ 3 →
    BayClass.ofCode k = some c →
    (s.selection e c = none → exec (.holdPlaceBest e k ticket) s = .next (s.onlyAnswered 9 28 .noBay []))
    ∧ ∀ b, s.selection e c = some b →
      ∃ t, exec (.holdPlaceBest e k ticket) s = .next t
        ∧ t.AnsweredDone 28 (u16 b ++ [u8 (s.bay b).zone, u8 (s.zone (s.bay b).zone).cfg.level] ++ u16 s.site.holdTicks)
        ∧ s.BayChange t b { s.bay b with hold := some ⟨ticket, 8, s.site.holdTicks⟩ })

/-! ## Zones, routes and the site record (chapter 2) -/

/-- ZONE_SET asking for IN_USE within the ranges of R29 writes the configuration, keeps the host shed flag, the host floor,
the slots, I, S and the blind condition, takes the band procedure against S with its one event under the new mask, brings the
demand figures and the tallies up to date, and marks the nodes whose open offer names the zone when its level changes; out of
range it is refused with RANGE (R29, R30, R102, R116, R133; log entry 11 for the mask). -/
def Obligations.ZoneSetConfiguresTheZone : Prop :=
  ∀ (s : State) (z u : Nat) (cfg : ZoneParams), s.Ready → s.OutputsExact →
    (¬ (z < 32 ∧ u = 1 ∧ zoneParamsInRange cfg = true) →
      exec (.zoneSetInUse z u cfg) s = .next (s.onlyAnswered 36 6 .range []))
    ∧ (z < 32 → u = 1 → zoneParamsInRange cfg = true →
      ∃ t, exec (.zoneSetInUse z u cfg) s = .next t ∧ t.AnsweredDone 6 [] ∧ s.ZoneFrame z t
        ∧ (let x := s.zone z
           let y := t.zone z
           let b := bandAfter cfg x.S x.band
           y.inUse = true ∧ y.cfg = cfg ∧ y.hostShed = x.hostShed ∧ y.hostFloor = x.hostFloor ∧ y.slots = x.slots
            ∧ y.I = x.I ∧ y.S = x.S ∧ y.blind = x.blind ∧ y.band = b
            ∧ y.pending.getLsbD 0 = (x.pending.getLsbD 0 || (cfg.mask.getLsbD 0 && decide (x.band.rank < b.rank)))
            ∧ y.pending.getLsbD 1 = (x.pending.getLsbD 1 || (cfg.mask.getLsbD 1 && decide (b.rank < x.band.rank)))
            ∧ (x.tallies = s.tallyOf z → y.tallies = t.tallyOf z ∧ y.FiguresExact))
        ∧ (cfg.level ≠ (s.zone z).cfg.level → ∀ id e k b, (s.node id).service = .entry e (.offer k b z) →
            (s.node id).state ≠ .off → (t.node id).outputPending = true))

/-- The band procedure: it rises while S is at or above the next on-threshold; only if it has not risen it falls while S is
below the on-threshold of the band less band_h; otherwise the band stays (R101). -/
def Obligations.BandProcedureHasHysteresis : Prop :=
  ∀ (c : ZoneParams) (s : Nat) (b : Band), zoneParamsInRange c = true →
    let r := bandAfter c s b
    (b.rank < r.rank →
      onThreshold c r ≤ s ∧ ∀ b' : Band, b.rank < b'.rank → (b'.rank ≤ r.rank ↔ onThreshold c b' ≤ s))
    ∧ (r.rank < b.rank →
      (∀ b', b.above = some b' → s < onThreshold c b')
        ∧ ∀ b' : Band, b' ≠ .clear → b'.rank ≤ b.rank → (r.rank < b'.rank ↔ s + c.bandH < onThreshold c b'))
    ∧ (r = b → (∀ b', b.above = some b' → s < onThreshold c b') ∧ (b ≠ .clear → onThreshold c b ≤ s + c.bandH))

/-- ZONE_SET asking for FREE is refused with RANGE for a zone above 31 and with STATE while a bay in service, a slot, a stage
or a sign names the zone; otherwise the zone record returns to its power-on values but for its pending set, and nothing else
of the part changes but the marks of the nodes whose open offer names the zone, where its level changes, and the output pins
(R31, R133). -/
def Obligations.ZoneSetFreesTheZone : Prop :=
  (∀ (s : State) (z : Nat) (cfg : ZoneParams), s.Ready → s.OutputsExact → 32 ≤ z →
    exec (.zoneSetFree z cfg) s = .next (s.onlyAnswered 36 6 .range []))
  ∧ (∀ (s : State) (z : Nat) (cfg : ZoneParams), s.Ready → s.OutputsExact → s.Legal → z < 32 →
    let named := (∃ b, (s.bay b).cls ≠ .retired ∧ (s.bay b).zone = z) ∨ (s.zone z).slots ≠ [] ∨ (s.zone z).stages ≠ []
      ∨ ∃ i, i < 32 ∧ (s.sign i).zones.getLsbD z = true
    let offering := fun id : NodeId => (s.zone z).cfg.level ≠ 1 ∧ (s.node id).state ≠ .off
      ∧ ∃ e k b, (s.node id).service = .entry e (.offer k b z)
    (named → exec (.zoneSetFree z cfg) s = .next (s.onlyAnswered 36 6 .state []))
    ∧ (¬ named → ∃ t, exec (.zoneSetFree z cfg) s = .next t
        ∧ t = { s.onlyAnswered 36 6 .done [] with zones := t.zones, nodes := t.nodes, out := t.out } ∧ t.OutputsExact
        ∧ t.zone z = { Zone.powerOn with pending := (s.zone z).pending } ∧ (∀ y, y ≠ z → t.zone y = s.zone y)
        ∧ ∀ id : NodeId, id.Exists → (offering id → t.node id = { s.node id with outputPending := true })
          ∧ (¬ offering id → t.node id = s.node id)))

/-- ZONE_SHED sets and ZONE_UNSHED clears the host shed flag of an IN_USE zone and nothing else of the settings and the fume
part; the offered counts follow the shed condition, and a FREE zone is refused with STATE (R19, R32, R33). -/
def Obligations.ShedRequestsSetTheFlag : Prop :=
  ∀ (s : State) (z : Nat) (f : Bool), s.Ready → s.OutputsExact → z < 32 →
    let c : Instr := if f = true then .zoneShed z else .zoneUnshed z
    let code := if f = true then 7 else 8
    ((s.zone z).inUse = false → exec c s = .next (s.onlyAnswered 6 code .state []))
    ∧ ((s.zone z).inUse = true → ∃ t, exec c s = .next t ∧ t.AnsweredDone code [] ∧ s.ZoneFrame z t
        ∧ ({ s.zone z with hostShed := f } : Zone).SameAir (t.zone z)
        ∧ ((t.zone z).shed = true ↔ f = true ∨ (s.zone z).band = .high ∨ (s.zone z).band = .purge)
        ∧ ((t.zone z).shed = (s.zone z).shed → t.zone z = { s.zone z with hostShed := f })
        ∧ ((t.zone z).shed ≠ (s.zone z).shed → (t.zone z).tallies = t.tallyOf z)
        ∧ ((t.zone z).shed = true → (s.zone z).shed = false → (t.zone z).tallies.offeredSum = 0))

/-- ROUTE_SET writes one entry of the route table and changes nothing else; an entrance above 7 or a zone above 31 is refused
with RANGE (R38). SITE_SET within the ranges of R41 writes every field, light levels and hold_weight above 15 as 15, brings
every light set up to date with a mark where it differs, and changes nothing else; out of range it is refused with RANGE (R41,
R42, R166). -/
def Obligations.RouteSetAndSiteSetWriteTheSettings : Prop :=
  (∀ (s : State) (e z cost : Nat), s.Ready → s.OutputsExact →
    (e < 8 → z < 32 → ∃ t, exec (.routeSet e z cost) s = .next t ∧ t.route e z = cost
      ∧ (∀ e' z', e' < 8 → z' < 32 → (e', z') ≠ (e, z) → t.route e' z' = s.route e' z')
      ∧ t = { s.onlyAnswered 8 10 .done [] with routes := t.routes })
    ∧ (¬ (e < 8 ∧ z < 32) → exec (.routeSet e z cost) s = .next (s.onlyAnswered 8 10 .range [])))
  ∧ (∀ (s : State) (c : SiteParams), s.Ready → s.OutputsExact →
    let ok := 10 ≤ c.settleTicks ∧ c.settleTicks ≤ 1200 ∧ 10 ≤ c.departTicks ∧ c.departTicks ≤ 1200 ∧ 100 ≤ c.holdTicks
      ∧ c.holdTicks ≤ 6000 ∧ 10 ≤ c.aisleTicks ∧ c.aisleTicks ≤ 6000 ∧ c.mask &&& 0x01FF#16 = 0#16
    (¬ ok → exec (.siteSet c) s = .next (s.onlyAnswered 23 12 .range []))
    ∧ (ok → ∃ t, exec (.siteSet c) s = .next t
        ∧ t.site = { settleTicks := c.settleTicks, departTicks := c.departTicks, holdTicks := c.holdTicks,
                     raisedPenalty := c.raisedPenalty, holdWeight := min c.holdWeight 15, base := min c.base 15,
                     guide := min c.guide 15, active := min c.active 15, parked := min c.parked 15,
                     aisleIdle := min c.aisleIdle 15, aisleActive := min c.aisleActive 15, aisleTicks := c.aisleTicks,
                     mask := c.mask }
        ∧ t = { s.onlyAnswered 23 12 .done [] with site := t.site, nodes := t.nodes }
        ∧ ∀ id, (s.node id).SameLink (t.node id)
          ∧ ((s.node id).service.kind ≠ some .row → t.node id = s.node id)
          ∧ ∀ r n lights, (s.node id).service = .row r n lights →
              (t.node id).service = .row r n (t.lightsOf r n lights.timer)
                ∧ (t.node id).outputPending
                  = ((s.node id).outputPending || decide (t.lightsOf r n lights.timer ≠ lights))))

/-! ## The row edit (chapter 3) -/

/-- EDIT_OPEN of a row and an offset in range, while no edit is open, copies the layout parts of its sixteen bays, sets the
cursor to the offset and the window to 600, and answers with them; while an edit is open it is refused with BUSY; out of range
with RANGE, taken first (R45, R191). EDIT_PUT writes the entry at the cursor, advances the cursor, sets the window to 600 and
answers; its four refusals are STATE without an open edit, RANGE at END, RANGE for a value out of range, and STATE for a class
in service in a FREE zone, in that order (R46, R191). -/
def Obligations.EditOpenAndEditPutFillTheBuffer : Prop :=
  (∀ (s : State) (r o : Nat), s.Ready → s.OutputsExact →
    (¬ (r < 128 ∧ o < 16) → exec (.editOpen r o) s = .next (s.onlyAnswered 7 14 .range []))
    ∧ (r < 128 → o < 16 → s.edit ≠ none → exec (.editOpen r o) s = .next (s.onlyAnswered 7 14 .busy []))
    ∧ (r < 128 → o < 16 → s.edit = none → ∃ e p, exec (.editOpen r o) s
          = .next { s.onlyAnswered 7 14 .done p with edit := some e }
        ∧ e.row = r ∧ e.cursor = o ∧ e.window = 600 ∧ e.entries.length = 16
        ∧ (∀ i, i < 16 → e.entries[i]? = some ⟨(s.bay (16 * r + i)).zone, (s.bay (16 * r + i)).cls,
            (s.bay (16 * r + i)).closed⟩)
        ∧ p.length = 52 ∧ p.take 4 = [u8 r, u8 o, 2#8, 88#8]
        ∧ ∀ i, i < 16 → (p.drop (4 + 3 * i)).take 3 = [u8 (s.bay (16 * r + i)).zone, u8 (s.bay (16 * r + i)).cls.code,
            u8 (flagCode (s.bay (16 * r + i)).closed)]))
  ∧ (∀ (s : State) (z k f : Nat), s.Ready → s.OutputsExact →
    let good := z < 32 ∧ k ≤ 5 ∧ f ≤ 1
    (s.edit = none → exec (.editPut z k f) s = .next (s.onlyAnswered 8 15 .state []))
    ∧ ∀ e, s.edit = some e →
      (e.cursor = 16 ∨ ¬ good → exec (.editPut z k f) s = .next (s.onlyAnswered 8 15 .range []))
      ∧ (e.cursor ≠ 16 → good → k ≠ 5 → (s.zone z).inUse = false →
          exec (.editPut z k f) s = .next (s.onlyAnswered 8 15 .state []))
      ∧ (e.cursor < 16 → e.entries.length = 16 → good → k = 5 ∨ (s.zone z).inUse = true →
          ∃ x e', exec (.editPut z k f) s
              = .next { s.onlyAnswered 8 15 .done [u8 e.row, u8 (e.cursor + 1), 2#8, 88#8] with edit := some e' }
            ∧ x.zone = z ∧ x.cls.code = k ∧ flagCode x.closed = f
            ∧ e'.row = e.row ∧ e'.cursor = e.cursor + 1 ∧ e'.window = 600
            ∧ ∀ i, i < 16 → e'.entries[i]? = if i = e.cursor then some x else e.entries[i]?))

/-- EDIT_COMMIT writes the sixteen entries into the bays of the row: a bay in service before and after keeps its live part,
one that is retired or returns to service is DARK with no timer and no hold; no other bay changes, the tallies of the zones it
touches agree with the bays, an open offer of a moved bay names its new zone, the edit is closed, and the response carries the
number of layout parts that changed (R49 to R52; log entry 23 for the offers). EDIT_COMMIT with an entry in service in a FREE
zone is refused with STATE and the lowest such offset (in one byte: log entry 30), and changes nothing; without an open edit
it is refused with STATE (R49). -/
def Obligations.EditCommitWritesTheRow : Prop :=
  (∀ (s : State) (e : Edit), s.Ready → s.Legal → s.edit = some e →
    (∀ x ∈ e.entries, x.cls = .retired ∨ (s.zone x.zone).inUse = true) →
    ∃ t, exec .editCommit s = .next t ∧ t.edit = none
      ∧ t.AnsweredDone 16 [u8 ((List.range 16).countP fun i => e.entries[i]? ≠
          some ⟨(s.bay (16 * e.row + i)).zone, (s.bay (16 * e.row + i)).cls, (s.bay (16 * e.row + i)).closed⟩)]
      ∧ (∀ (i : Nat) (x : Entry), e.entries[i]? = some x →
          let b := s.bay (16 * e.row + i)
          let live := (b.cls = .retired ∧ x.cls = .retired) ∨ (b.cls ≠ .retired ∧ x.cls ≠ .retired)
          t.bay (16 * e.row + i) = if live then { b with zone := x.zone, cls := x.cls, closed := x.closed }
            else { zone := x.zone, cls := x.cls, closed := x.closed, census := .dark, stateTimer := 0, hold := none })
      ∧ (∀ b, b / 16 ≠ e.row → t.bay b = s.bay b)
      ∧ (s.TalliesAgree → t.TalliesAgree)
      ∧ (∀ z, (∀ i, i < 16 → (s.bay (16 * e.row + i)).zone ≠ z) → (∀ x ∈ e.entries, x.zone ≠ z) → t.zone z = s.zone z)
      ∧ (∀ z, (s.zone z).SameAir (t.zone z)) ∧ (∀ i, (s.sign i).SameFields (t.sign i))
      ∧ (∀ id, (t.node id).state = (s.node id).state ∧ (t.node id).misses = (s.node id).misses
          ∧ (t.node id).toggle = (s.node id).toggle ∧ (t.node id).marker = (s.node id).marker
          ∧ (t.node id).service.rowBinding = (s.node id).service.rowBinding
          ∧ ∀ n a, (s.node id).service = .entry n a → ∃ a', (t.node id).service = .entry n a'
              ∧ (a' = a ∨ ∃ k b z, a = .offer k b z ∧ a' = .offer k b (t.bay b).zone ∧ b / 16 = e.row))
      ∧ (∀ id n k b z, (s.node id).service = .entry n (.offer k b z) → b / 16 = e.row → (s.bay b).cls ≠ .retired →
          (t.bay b).cls ≠ .retired → (s.bay b).zone ≠ (t.bay b).zone →
          (t.node id).service = .entry n (.offer k b (t.bay b).zone))
      ∧ t.lines = s.lines ∧ t.routes = s.routes ∧ t.site = s.site ∧ t.sitePending = s.sitePending ∧ t.ticks = s.ticks
      ∧ t.ignoring = s.ignoring)
  ∧ (∀ s : State, s.Ready → s.OutputsExact →
    (s.edit = none → exec .editCommit s = .next (s.onlyAnswered 5 16 .state []))
    ∧ ∀ e i x, s.edit = some e → e.entries[i]? = some x → x.cls ≠ .retired → (s.zone x.zone).inUse = false →
      (∀ (j : Nat) (y : Entry), j < i → e.entries[j]? = some y → y.cls = .retired ∨ (s.zone y.zone).inUse = true) →
      exec .editCommit s = .next (s.onlyAnswered 5 16 .state [u8 i]))

/-- EDIT_DROP closes the open edit, and a window timer at 0 closes it with EDIT_EXPIRED raised in SITE where its mask has it;
neither changes anything else, and EDIT_DROP without an open edit is refused with STATE (R47, R48, R172, R176). -/
def Obligations.EditIsDropped : Prop :=
  ∀ s : State, s.OutputsExact →
    (s.Ready → s.edit = none → exec .editDrop s = .next (s.onlyAnswered 5 17 .state []))
    ∧ (s.Ready → s.edit ≠ none → exec .editDrop s = .next { s.onlyAnswered 5 17 .done [] with edit := none })
    ∧ ∀ e, s.phase ≠ .held → s.edit = some e → e.window = 0 →
      exec .windowTimerExpiry s = .next
        (if s.site.mask.getLsbD 15 = true then
          { s with edit := none, sitePending := s.sitePending ||| 0x8000#16, out := { s.out with attn := true } }
        else { s with edit := none })

/-! ## Bindings (chapter 3) -/

/-- NODE_BIND of a free address makes the record LIVE with its kind and binding, expected toggle ANY and output pending, with
the row's light set or an answer READY, and takes an IDLE line to SCANNING; nothing else changes. An address or a row or
entrance that is bound is refused with CONFLICT (R54, R64, R132, R160). -/
def Obligations.NodeBindMakesTheNodeLive : Prop :=
  ∀ (s : State) (l a k b1 b2 : Nat), s.Ready → s.OutputsExact → s.Legal → l < 4 → 1 ≤ a → a ≤ 63 →
    let rowOk := k = 1 ∧ b1 < 128 ∧ 1 ≤ b2 ∧ b2 ≤ 16
    let entryOk := k = 5 ∧ b1 < 8
    let taken := (s.node ⟨l, a⟩).state ≠ .off ∨ (k = 1 ∧ ∃ id n lights, (s.node id).service = .row b1 n lights)
      ∨ (k = 5 ∧ ∃ id x, (s.node id).service = .entry b1 x)
    (¬ (rowOk ∨ entryOk ∨ k = 2 ∨ k = 3 ∨ k = 4) → exec (.nodeBind l a k b1 b2) s = .next (s.onlyAnswered 10 18 .range []))
    ∧ (rowOk ∨ entryOk ∨ k = 2 ∨ k = 3 ∨ k = 4 →
        (taken → exec (.nodeBind l a k b1 b2) s = .next (s.onlyAnswered 10 18 .conflict []))
        ∧ (¬ taken → ∃ t v, exec (.nodeBind l a k b1 b2) s = .next t
          ∧ t = { s.onlyAnswered 10 18 .done [] with nodes := t.nodes, lines := t.lines }
          ∧ t.node ⟨l, a⟩ = { service := v, state := .live, misses := 0, toggle := .any, marker := .none,
                              outputPending := true }
          ∧ (k = 1 → v = .row b1 b2 (s.lightsOf b1 b2 none)) ∧ (k = 2 → v = .gas) ∧ (k = 3 → v = .fan)
          ∧ (k = 4 → v = .sign) ∧ (k = 5 → v = .entry b1 .ready)
          ∧ (∀ id, id.Exists → id ≠ ⟨l, a⟩ → t.node id = s.node id)
          ∧ t.line l = (if (s.line l).state = .idle then
              { s.line l with state := .scanning, scan := 0, breakMeasure := 0 } else s.line l)
          ∧ ∀ i, i ≠ l → t.line i = s.line i))

/-- NODE_RETIRE of a bound node that no slot, stage or sign names returns its record to the power-on values, takes the bays of
a ROW node to DARK, and the line to IDLE when it was the last; a visit to it in flight is marked, so that its reply is not
applied; no other node, no zone setting and no hold changes. An OFF record and a named node are refused with STATE (R8, R55,
R64). -/
def Obligations.NodeRetireSetsTheNodeOff : Prop :=
  ∀ (s : State) (l a : Nat), s.Ready → s.OutputsExact → s.Legal → l < 4 → 1 ≤ a → a ≤ 63 →
    let id : NodeId := ⟨l, a⟩
    let named := (∃ z, z < 32 ∧ ((∃ g ∈ (s.zone z).slots, g.node = id) ∨ ∃ g ∈ (s.zone z).stages, g.node = id))
      ∨ ∃ i, i < 32 ∧ (s.sign i).node = some id
    ((s.node id).state = .off ∨ named → exec (.nodeRetire l a) s = .next (s.onlyAnswered 7 19 .state []))
    ∧ ((s.node id).state ≠ .off → ¬ named →
      ∃ t, exec (.nodeRetire l a) s = .next t ∧ t.AnsweredDone 19 [] ∧ t.node id = Node.powerOn
        ∧ (∀ j : NodeId, j.Exists → j ≠ id → (s.node j).SameLink (t.node j))
        ∧ (∀ b, t.bay b = if (s.node id).service.rowBinding.map (·.1) = some (b / 16) then
              (if (s.bay b).cls = .retired ∨ (s.bay b).census = .dark then s.bay b
               else { s.bay b with census := .dark, stateTimer := 0 })
            else s.bay b)
        ∧ (s.TalliesAgree → t.TalliesAgree)
        ∧ (∀ z, (s.zone z).SameAir (t.zone z)) ∧ (∀ i, (s.sign i).SameFields (t.sign i))
        ∧ t.line l = (if ∃ x ∈ List.range 64, 1 ≤ x ∧ x ≠ a ∧ (s.node ⟨l, x⟩).state ≠ .off then
              { s.line l with visit := (s.line l).visit.map fun v => if v.address = a then { v with retired := true } else v }
            else { s.line l with state := .idle, visit := none, de := false, breakMeasure := 0, probe := none,
                                 watch := false })
        ∧ (∀ i, i ≠ l → t.line i = s.line i)
        ∧ t.routes = s.routes ∧ t.site = s.site ∧ t.sitePending = s.sitePending ∧ t.edit = s.edit ∧ t.ticks = s.ticks
        ∧ t.ignoring = s.ignoring)

/-- NODE_BAR makes a LIVE or SILENT node of kind ROW, GAS or ENTRY BARRED, and its bays go DARK, its slots stale, or its open
answer is abandoned; S, the band and the holds stay, and no node event is raised in a zone or in SITE. A BARRED node stays as
it is, and an OFF, FAN or SIGN record is refused with STATE (R8, R56, R95, R138). NODE_UNBAR makes a BARRED node LIVE, or
SILENT on a line in FAULT, with miss count 0, expected toggle ANY, marker NONE and output pending, and changes nothing else; a
record that is not BARRED is refused with STATE (R57, R80, R84). -/
def Obligations.NodeBarAndNodeUnbarMoveTheNode : Prop :=
  (∀ (s : State) (l a : Nat), s.Ready → s.OutputsExact → s.Legal → l < 4 → 1 ≤ a → a ≤ 63 →
    let id : NodeId := ⟨l, a⟩
    let v := (s.node id).service
    (v = .none ∨ v = .fan ∨ v = .sign → exec (.nodeBar l a) s = .next (s.onlyAnswered 7 20 .state []))
    ∧ ((s.node id).state = .barred → exec (.nodeBar l a) s = .next (s.onlyAnswered 7 20 .done []))
    ∧ ((s.node id).state = .live ∨ (s.node id).state = .silent → v ≠ .fan → v ≠ .sign →
      ∃ t, exec (.nodeBar l a) s = .next t ∧ t.AnsweredDone 20 []
        ∧ (t.node id).state = .barred ∧ (t.node id).misses = (s.node id).misses
        ∧ (t.node id).toggle = (s.node id).toggle ∧ (t.node id).marker = (s.node id).marker
        ∧ (t.node id).service.kind = v.kind ∧ (t.node id).service.rowBinding = v.rowBinding
        ∧ (∀ e x, v = .entry e x → (t.node id).service = .entry e .ready)
        ∧ (∀ j : NodeId, j.Exists → j ≠ id → (s.node j).SameLink (t.node j))
        ∧ (∀ b, t.bay b = if v.rowBinding.map (·.1) = some (b / 16) then
              (if (s.bay b).cls = .retired ∨ (s.bay b).census = .dark then s.bay b
               else { s.bay b with census := .dark, stateTimer := 0 })
            else s.bay b)
        ∧ (∀ z, z < 32 → (t.zone z).slots
            = (s.zone z).slots.map fun g => if v = .gas ∧ g.node = id then { g with fresh := false, age := 0 } else g)
        ∧ (∀ z, (t.zone z).S = (s.zone z).S ∧ (t.zone z).band = (s.zone z).band ∧ (t.zone z).cfg = (s.zone z).cfg
          ∧ (t.zone z).pending.getLsbD 9 = (s.zone z).pending.getLsbD 9)
        ∧ (∀ i, (s.sign i).SameFields (t.sign i))
        ∧ t.lines = s.lines ∧ t.routes = s.routes ∧ t.site = s.site ∧ t.sitePending = s.sitePending ∧ t.edit = s.edit
        ∧ t.ticks = s.ticks ∧ t.ignoring = s.ignoring))
  ∧ (∀ (s : State) (l a : Nat), s.Ready → s.OutputsExact → l < 4 → 1 ≤ a → a ≤ 63 →
    ((s.node ⟨l, a⟩).state ≠ .barred → exec (.nodeUnbar l a) s = .next (s.onlyAnswered 7 21 .state []))
    ∧ ((s.node ⟨l, a⟩).state = .barred → ∃ t, exec (.nodeUnbar l a) s = .next t
      ∧ t = { s.onlyAnswered 7 21 .done [] with nodes := t.nodes }
      ∧ t.node ⟨l, a⟩ = { s.node ⟨l, a⟩ with state := if (s.line l).state = .fault then .silent else .live, misses := 0,
                                             toggle := .any, marker := .none, outputPending := true }
      ∧ ∀ id : NodeId, id.Exists → id ≠ ⟨l, a⟩ → t.node id = s.node id))

/-- ZONE_SLOT asking to bind appends a stale slot to the zone's list and answers its number; I, S and the band stay, the zone
is blind unless a slot is fresh, with BLIND raised when it becomes so, and no other zone changes. Its refusals are RANGE,
STATE for a FREE zone, for a node that is no GAS node and for a full list, and CONFLICT for a channel that is bound, in that
order (R58, R96). ZONE_SLOT asking to unbind removes the slot of that number, the later ones moving up as they stand; I is the
largest sample of the fresh slots left, S and the band stay, a zone left with stale slots only is blind, with BLIND raised
when it becomes so, and a zone left without a slot is not blind, with no SIGHTED raised; a number out of range is refused with
RANGE, a FREE zone or a number past the list with STATE (R59, R96, R98). A form byte that names neither is refused with RANGE
(R190). -/
def Obligations.ZoneSlotChangesTheSlotList : Prop :=
  (∀ (s : State) (f z l a ch ref : Nat), s.Ready → s.OutputsExact → s.Legal →
    let good := f = 0 ∧ z < 32 ∧ l < 4 ∧ 1 ≤ a ∧ a ≤ 63 ∧ ch ≤ 1 ∧ 1 ≤ ref ∧ ref ≤ 4095
    let fits := (s.zone z).inUse = true ∧ (s.node ⟨l, a⟩).service = .gas ∧ (s.zone z).slots.length < 4
    (¬ good → exec (.zoneSlotBind f z l a ch ref) s = .next (s.onlyAnswered 12 22 .range []))
    ∧ (good → ¬ fits → exec (.zoneSlotBind f z l a ch ref) s = .next (s.onlyAnswered 12 22 .state []))
    ∧ (good → fits → (∃ y, y < 32 ∧ ∃ g ∈ (s.zone y).slots, g.node = ⟨l, a⟩ ∧ g.channel = ch) →
        exec (.zoneSlotBind f z l a ch ref) s = .next (s.onlyAnswered 12 22 .conflict [])))
  ∧ (∀ (s : State) (f z n : Nat), s.Ready → s.OutputsExact → ¬ (f = 1 ∧ z < 32 ∧ 1 ≤ n ∧ n ≤ 4) →
    exec (.zoneSlotUnbind f z n) s = .next (s.onlyAnswered 8 22 .range []))
  ∧ (∀ (s : State) (z l a ch ref : Nat), s.Ready → s.Legal → z < 32 → l < 4 → 1 ≤ a → a ≤ 63 → ch ≤ 1 → 1 ≤ ref →
    ref ≤ 4095 → (s.zone z).inUse = true → (s.node ⟨l, a⟩).service = .gas → (s.zone z).slots.length < 4 →
    (∀ y, y < 32 → ∀ g ∈ (s.zone y).slots, ¬ (g.node = ⟨l, a⟩ ∧ g.channel = ch)) →
    ∃ t, exec (.zoneSlotBind 0 z l a ch ref) s = .next t ∧ t.AnsweredDone 22 [u8 ((s.zone z).slots.length + 1)]
      ∧ s.ZoneFrame z t
      ∧ (t.zone z).slots = (s.zone z).slots
          ++ [{ node := ⟨l, a⟩, channel := ch, ref := ref, n := 0, fresh := false, age := 0 }]
      ∧ (t.zone z).I = (s.zone z).I ∧ (t.zone z).S = (s.zone z).S ∧ (t.zone z).band = (s.zone z).band
      ∧ (t.zone z).cfg = (s.zone z).cfg ∧ (t.zone z).tallies = (s.zone z).tallies
      ∧ ((t.zone z).blind = true ↔ ∀ g ∈ (s.zone z).slots, g.fresh = false)
      ∧ (t.zone z).pending.getLsbD 4 = ((s.zone z).pending.getLsbD 4
          || ((s.zone z).cfg.mask.getLsbD 4 && (t.zone z).blind && !(s.zone z).blind)))
  ∧ (∀ (s : State) (z n : Nat), s.Ready → s.OutputsExact → s.Legal → z < 32 → 1 ≤ n → n ≤ 4 →
    ((s.zone z).inUse = false ∨ (s.zone z).slots.length < n →
      exec (.zoneSlotUnbind 1 z n) s = .next (s.onlyAnswered 8 22 .state []))
    ∧ ((s.zone z).inUse = true → n ≤ (s.zone z).slots.length →
      ∃ t, exec (.zoneSlotUnbind 1 z n) s = .next t ∧ t.AnsweredDone 22 [] ∧ s.ZoneFrame z t
        ∧ (t.zone z).slots = (s.zone z).slots.take (n - 1) ++ (s.zone z).slots.drop n
        ∧ (∀ g ∈ (t.zone z).slots, g.fresh = true → g.n ≤ (t.zone z).I)
        ∧ ((t.zone z).I = 0 ∨ ∃ g ∈ (t.zone z).slots, g.fresh = true ∧ g.n = (t.zone z).I)
        ∧ (t.zone z).S = (s.zone z).S ∧ (t.zone z).band = (s.zone z).band
        ∧ ((t.zone z).blind = true ↔ (t.zone z).slots ≠ [] ∧ ∀ g ∈ (t.zone z).slots, g.fresh = false)
        ∧ (t.zone z).pending.getLsbD 4 = ((s.zone z).pending.getLsbD 4
          || ((s.zone z).cfg.mask.getLsbD 4 && (t.zone z).blind && !(s.zone z).blind))
        ∧ (t.zone z).pending.getLsbD 5 = (s.zone z).pending.getLsbD 5))

/-- ZONE_STAGE asking to bind appends a stage of the FAN node to the zone's list, marks the node, answers the stage's number
and brings the demand figures up to date; no other zone and nothing of the fume part changes. Its refusals are RANGE, STATE
for a FREE zone, for a sequencer that is not IDLE, for a node that is no FAN node and for a full list, and CONFLICT for a node
that is bound, in that order (R60, R109). ZONE_STAGE asking to unbind removes an IDLE or FAULTED stage while the sequencer is
IDLE and brings the demand figures up to date; otherwise it is refused with STATE, and first with RANGE for a number out of
range (R61). A form byte that names neither is refused with RANGE (R190). -/
def Obligations.ZoneStageChangesTheStageList : Prop :=
  (∀ (s : State) (f z l a : Nat), s.Ready → s.OutputsExact → s.Legal →
    let good := f = 0 ∧ z < 32 ∧ l < 4 ∧ 1 ≤ a ∧ a ≤ 63
    let fits := (s.zone z).inUse = true ∧ (s.zone z).seq = .idle ∧ (s.node ⟨l, a⟩).service = .fan
      ∧ (s.zone z).stages.length < 4
    (¬ good → exec (.zoneStageBind f z l a) s = .next (s.onlyAnswered 9 23 .range []))
    ∧ (good → ¬ fits → exec (.zoneStageBind f z l a) s = .next (s.onlyAnswered 9 23 .state []))
    ∧ (good → fits → (∃ y, y < 32 ∧ ∃ g ∈ (s.zone y).stages, g.node = ⟨l, a⟩) →
        exec (.zoneStageBind f z l a) s = .next (s.onlyAnswered 9 23 .conflict [])))
  ∧ (∀ (s : State) (f z n : Nat), s.Ready → s.OutputsExact → ¬ (f = 1 ∧ z < 32 ∧ 1 ≤ n ∧ n ≤ 4) →
    exec (.zoneStageUnbind f z n) s = .next (s.onlyAnswered 8 23 .range []))
  ∧ (∀ (s : State) (z l a : Nat), s.Ready → s.Legal → z < 32 → l < 4 → 1 ≤ a → a ≤ 63 → (s.zone z).inUse = true →
    (s.zone z).seq = .idle → (s.node ⟨l, a⟩).service = .fan → (s.zone z).stages.length < 4 →
    (∀ y, y < 32 → ∀ g ∈ (s.zone y).stages, g.node ≠ ⟨l, a⟩) →
    ∃ t, exec (.zoneStageBind 0 z l a) s = .next t ∧ t.AnsweredDone 23 [u8 ((s.zone z).stages.length + 1)]
      ∧ s.ZoneFrame z t ∧ (s.zone z).SameAir (t.zone z) ∧ (t.zone z).tallies = (s.zone z).tallies
      ∧ (t.zone z).stages.map (·.node) = (s.zone z).stages.map (·.node) ++ [⟨l, a⟩]
      ∧ (t.node ⟨l, a⟩).outputPending = true ∧ (t.zone z).FiguresExact)
  ∧ (∀ (s : State) (z n : Nat), s.Ready → s.OutputsExact → z < 32 → 1 ≤ n → n ≤ 4 →
    let free := fun g : Stage => g.status = .idle ∨ g.status = .faulted
    ((s.zone z).inUse = false ∨ (s.zone z).stages.length < n ∨ (s.zone z).seq ≠ .idle
        ∨ (∃ g, (s.zone z).stages[n - 1]? = some g ∧ ¬ free g) →
      exec (.zoneStageUnbind 1 z n) s = .next (s.onlyAnswered 8 23 .state []))
    ∧ ∀ g, (s.zone z).inUse = true → (s.zone z).seq = .idle → (s.zone z).stages[n - 1]? = some g → free g →
      ∃ t, exec (.zoneStageUnbind 1 z n) s = .next t ∧ t.AnsweredDone 23 [] ∧ s.ZoneFrame z t
        ∧ (s.zone z).SameAir (t.zone z) ∧ (t.zone z).tallies = (s.zone z).tallies
        ∧ (t.zone z).stages.map (·.node)
            = ((s.zone z).stages.take (n - 1) ++ (s.zone z).stages.drop n).map (·.node)
        ∧ (t.zone z).FiguresExact)

/-! ## The field lines (chapter 4) -/

/-- VISIT_START visits the lowest bound address above the scan position, or else the lowest of the line, sends a command to a
LIVE or BARRED node with its output pending, clears that mark, and drives the line; nothing else changes (R68, R69). -/
def Obligations.VisitGoesToTheNextNode : Prop :=
  ∀ (s : State) (l a : Nat), s.phase ≠ .held → s.OutputsExact → s.Legal → l < 4 → (s.line l).state = .scanning →
    (s.line l).visit = none → 1 ≤ a → a ≤ 63 →
    let off := fun x => (s.node ⟨l, x⟩).state = .off
    let n := s.node ⟨l, a⟩
    let heard := n.state = .live ∨ n.state = .barred
    ¬ off a →
    ((s.line l).scan < a ∧ (∀ x, (s.line l).scan < x → x < a → off x))
      ∨ ((∀ x, (s.line l).scan < x → x ≤ 63 → off x) ∧ ∀ x, 1 ≤ x → x < a → off x) →
    ∃ t v, exec (.visitStart l) s = .next t
      ∧ t = { s with nodes := t.nodes, lines := t.lines, choices := t.choices }
      ∧ t.line l = { s.line l with scan := a, visit := some v, de := true, breakMeasure := (t.line l).breakMeasure }
      ∧ ((s.line l).rxBreak = false → (t.line l).breakMeasure = (s.line l).breakMeasure ∧ t.choices = s.choices)
      ∧ (s.line l).breakMeasure ≤ (t.line l).breakMeasure
      ∧ v.address = a ∧ v.frame = s.visitFrame ⟨l, a⟩ ∧ v.retired = false
      ∧ (v.command = true ↔ heard ∧ n.outputPending = true ∧ n.service ≠ .gas)
      ∧ t.node ⟨l, a⟩ = { n with outputPending := if heard then false else n.outputPending }
      ∧ (∀ id : NodeId, id.Exists → id ≠ ⟨l, a⟩ → t.node id = s.node id) ∧ ∀ i, i ≠ l → t.line i = s.line i

/-- The frame of a visit carries the address, the kind, the command flag, the acknowledgement derived from the expected
toggle, the marker, the length, the content of a command, and the CRC-8 over them (R69, R77, R87, R187, R188). The bits of a
payload that R188 does not name are 0 by the model's choice (log entry 32). -/
def Obligations.FrameCarriesTheContent : Prop :=
  ∀ (s : State) (id : NodeId) (k : NodeKind), s.Legal → s.LightsExact → id.Exists → (s.node id).service.kind = some k →
    let n := s.node id
    let command := (n.state = .live ∨ n.state = .barred) ∧ n.outputPending = true ∧ k ≠ .gas
    ∃ (control : Byte) (payload : List Byte),
      s.visitFrame id = startMark ::
        ((u8 id.address :: control :: u8 payload.length :: payload)
          ++ [crc8 (u8 id.address :: control :: u8 payload.length :: payload)]).map plainChar
      ∧ payload.length ≤ 24
      ∧ control.toNat % 8 = k.code ∧ (control.getLsbD 3 = true ↔ command)
      ∧ control.toNat / 16 % 4 = (match n.toggle with | .any => 0 | .zero => 3 | .one => 2)
      ∧ control.toNat / 64 = (if n.state = .barred then 1 else n.marker.code)
      ∧ (¬ command → payload = [])
      ∧ (command →
        (∀ r c lights, n.service = .row r c lights → payload.length = 11 ∧ byteAt payload 10 = lights.aisle
          ∧ ∀ i, i < 16 →
            byteAt payload (i / 2) / (if i % 2 = 0 then 1 else 16) % 16 = (lights.bays.getD i (0, false)).1
            ∧ (wordAt payload 8).testBit i = (lights.bays.getD i (0, false)).2)
        ∧ (n.service = .fan → (payload = [1#8] ∧ ∃ z, z < 32 ∧ ∃ g ∈ (s.zone z).stages, g.node = id
              ∧ (g.status = .starting ∨ g.status = .running))
            ∨ (payload = [0#8] ∧ ∀ z, z < 32 → ∀ g ∈ (s.zone z).stages, g.node = id →
              g.status ≠ .starting ∧ g.status ≠ .running))
        ∧ (∀ e, n.service = .entry e .ready → payload = [0#8])
        ∧ (∀ e q b z, n.service = .entry e (.offer q b z) →
            payload = 1#8 :: u16 q ++ u16 b ++ [u8 z, u8 (s.zone z).cfg.level])
        ∧ (∀ e q, n.service = .entry e (.full q) → payload = 2#8 :: u16 q)
        ∧ (n.service = .sign → (∀ i, i < 32 → (s.sign i).node ≠ some id) → payload = [0#8])
        ∧ ∀ i, n.service = .sign → i < 32 → (s.sign i).node = some id →
          (∀ j, j < 32 → (s.sign j).node = some id → j = i) →
          payload = (match (s.sign i).mode with
            | .off => [0#8]
            | .count => 1#8 :: u16 (s.sign i).value ++ [if (s.sign i).value = 0 then 1#8 else 0#8]
            | .text => 2#8 :: u8 (s.sign i).text.length :: (s.sign i).text))

/-- FRAME_SENT releases the driver; a receive input that is not at the break level then ends the break measure (R70, R81; log
entry 25 for the measure). BREAK_LEVEL_CHANGE moves the receive input, and leaving the break level while the part does not
transmit returns the measure to 0. Neither changes anything else. -/
def Obligations.DriverAndInputMoveTheLine : Prop :=
  ∀ (s : State) (l : Nat), s.OutputsExact → l < 4 →
    (∀ v, s.phase ≠ .held → (s.line l).visit = some v → (s.line l).de = true →
      ∃ t, exec (.frameSent l) s = .next t ∧ t = { s with lines := t.lines } ∧ (∀ i, i ≠ l → t.line i = s.line i)
        ∧ t.line l = { s.line l with de := false,
                                     breakMeasure := if (s.line l).rxBreak = true then (s.line l).breakMeasure else 0 })
    ∧ ∀ b, ∃ t, exec (.breakLevelChange l b) s = .next t ∧ t = { s with lines := t.lines }
      ∧ (∀ i, i ≠ l → t.line i = s.line i)
      ∧ t.line l = { s.line l with rxBreak := b, breakMeasure :=
          if b = true ∨ (s.line l).de = true then (s.line l).breakMeasure else 0 }

/-- The replies of R187 and R188 are read as what they carry; a reply with a wrong CRC-8 or with a start mark inside is not
valid. Nor is any reply, null or a report, whose address character is not the address visited with the direction from node to
part, whose kind is not the record's, whose length character is not the number of its payload bytes, or whose payload length
is not one that the kind may send; nor an entry request for a class that is not offerable (R70, R86). -/
def Obligations.ReplyFramesAreRead : Prop :=
  ∀ a, 1 ≤ a → a ≤ 63 →
    (∀ k : NodeKind, parseReply k a (replyChars a k.code []) = some .null)
    ∧ (∀ (p : BitVec 16) (m tog : Bool), parseReply .row a (replyChars a (9 + 16 * flagCode tog)
        (u16 p.toNat ++ [u8 (flagCode m)])) = some (.report tog (.row p m)))
    ∧ (∀ (r0 r1 : Nat) (v0 v1 tog : Bool), r0 ≤ 4095 → r1 ≤ 4095 → parseReply .gas a (replyChars a (10 + 16 * flagCode tog)
        (u16 (r0 + 32768 * flagCode v0) ++ u16 (r1 + 32768 * flagCode v1))) = some (.report tog (.gas r0 v0 r1 v1)))
    ∧ (∀ proof trip tog : Bool, parseReply .fan a (replyChars a (11 + 16 * flagCode tog)
        [u8 (flagCode proof + 2 * flagCode trip)]) = some (.report tog (.fan proof trip)))
    ∧ (∀ (ack tog : Bool) (x : Byte) (y : Nat), parseReply .entry a (replyChars a (13 + 16 * flagCode tog)
        (u8 (flagCode ack) :: x :: u16 y)) = some (.report tog (.entry ack none)))
    ∧ (∀ (ack tog : Bool) (c : BayClass) (ticket : Nat), c.code ≤ 3 → ticket ≤ 65535 →
        parseReply .entry a (replyChars a (13 + 16 * flagCode tog)
          (u8 (flagCode ack + 2) :: u8 (1 + c.code) :: u16 ticket)) = some (.report tog (.entry ack (some (c, ticket)))))
    ∧ (∀ (k : NodeKind) (body : List Byte) (x : Byte), x ≠ crc8 body →
        parseReply k a (startMark :: (body ++ [x]).map plainChar) = none)
    ∧ (∀ (k : NodeKind) (chars : List Char9), startMark ∈ chars → parseReply k a (startMark :: chars) = none)
    ∧ (∀ (k k' : NodeKind) (a' : Nat), 1 ≤ a' → a' ≤ 63 → a' ≠ a ∨ k' ≠ k → parseReply k a (replyChars a' k'.code []) = none)
    ∧ (∀ (k : NodeKind) (address control len : Byte) (payload : List Byte),
        let size := match k with | .row => some 3 | .gas => some 4 | .fan => some 1 | .sign => none | .entry => some 4
        let body := address :: control :: len :: payload
        address.toNat ≠ 128 + a ∨ control.toNat % 8 ≠ k.code ∨ len.toNat ≠ payload.length
          ∨ (control.getLsbD 3 = false ∧ payload ≠ []) ∨ (control.getLsbD 3 = true ∧ size ≠ some payload.length) →
        parseReply k a (startMark :: (body ++ [crc8 body]).map plainChar) = none)
    ∧ ∀ control flags cls t0 t1 : Byte, control.getLsbD 3 = true → flags.getLsbD 1 = true →
        ¬ (1 ≤ cls.toNat ∧ cls.toNat ≤ 4) →
        let body := [u8 (128 + a), control, 4#8, flags, cls, t0, t1]
        parseReply .entry a (startMark :: (body ++ [crc8 body]).map plainChar) = none

/-- A valid reply with a null report or a repeated one ends the visit, sets the miss count to 0 and applies nothing; a SILENT
node returns to LIVE with its output pending, and NODE_BACK is raised in the zones it serves, or in SITE when it serves none
(R73, R78, R88). A fresh report of a BARRED node is taken, with the marker BARRED and the opposite toggle expected, and
applied to nothing (R74, R78, R79). A visit whose record has been retired since it began ends and changes nothing, whatever
reply it gets or lacks (R55, R75); that this holds when its address has been bound again, and when no valid reply comes, is
the model's reading of these rules (log entry 22). -/
def Obligations.UnappliedReportsChangeTheNodeOnly : Prop :=
  (∀ (s : State) (l : Nat) (v : Visit) (k : NodeKind) (chars : List Char9) (r : Reply), s.Legal → s.OutputsExact →
    s.Waiting l v k → parseReply k v.address chars = some r →
    let n := s.node ⟨l, v.address⟩
    let back := n.state = .silent
    (r = .null ∨ ∃ tog body, r = .report tog body ∧ ((n.toggle = .zero ∧ tog = true) ∨ (n.toggle = .one ∧ tog = false))) →
    ∃ t, exec (.validReply l chars) s = .next t
      ∧ t = { s with nodes := t.nodes, lines := t.lines, zones := t.zones, sitePending := t.sitePending, out := t.out }
      ∧ t.line l = { s.line l with visit := none } ∧ (∀ i, i ≠ l → t.line i = s.line i)
      ∧ t.node ⟨l, v.address⟩ = { n with misses := 0, state := if back then .live else n.state,
                                         outputPending := n.outputPending || decide back }
      ∧ (∀ id : NodeId, id.Exists → id ≠ ⟨l, v.address⟩ → t.node id = s.node id)
      ∧ (∀ z, s.HeardZone ⟨l, v.address⟩ z (t.zone z)) ∧ s.HeardSite ⟨l, v.address⟩ t.sitePending)
  ∧ (∀ (s : State) (l : Nat) (v : Visit) (k : NodeKind) (chars : List Char9) (tog : Bool) (body : Report), s.Legal →
    s.OutputsExact → s.Waiting l v k → parseReply k v.address chars = some (.report tog body) →
    (s.node ⟨l, v.address⟩).state = .barred → (s.node ⟨l, v.address⟩).toggle.fresh tog = true →
    ∃ t, exec (.validReply l chars) s = .next t ∧ t = { s with nodes := t.nodes, lines := t.lines }
      ∧ t.line l = { s.line l with visit := none } ∧ (∀ i, i ≠ l → t.line i = s.line i)
      ∧ t.node ⟨l, v.address⟩ = { s.node ⟨l, v.address⟩ with misses := 0, marker := .barred,
                                                             toggle := if tog = true then .zero else .one }
      ∧ ∀ id : NodeId, id.Exists → id ≠ ⟨l, v.address⟩ → t.node id = s.node id)
  ∧ (∀ (s : State) (l : Nat) (v : Visit) (chars : List Char9) (c : Instr), s.phase ≠ .held → s.OutputsExact → l < 4 →
    (s.line l).state = .scanning → (s.line l).de = false → (s.line l).visit = some v → v.retired = true →
    c ∈ [Instr.validReply l chars, .replyWindowClose l, .badReply l] →
    ∃ t, exec c s = .next t ∧ t = { s with lines := t.lines } ∧ t.line l = { s.line l with visit := none }
      ∧ ∀ i, i ≠ l → t.line i = s.line i)

/-- A miss raises the miss count, to 5 at most, and sets the mark of an unanswered command again, and changes nothing else
(R71). It is the lack of a reply, a bad reply, or a reply whose characters are not valid (R70; log entry 16 for the last). The
fifth miss of a LIVE node makes it SILENT with the silence effects (R72), the stage that a FAN node runs FAULTED with cause
SILENT (R119), and the event that R88 gives. -/
def Obligations.MissesSilenceTheNode : Prop :=
  ∀ (s : State) (l : Nat) (v : Visit) (k : NodeKind) (c : Instr), s.Legal → s.OutputsExact → s.Waiting l v k →
    c ∈ [Instr.replyWindowClose l, .badReply l]
      ∨ (∃ chars, c = .validReply l chars ∧ parseReply k v.address chars = none) →
    let id : NodeId := ⟨l, v.address⟩
    let n := s.node id
    let last := n.state = .live ∧ n.misses = 4
    (¬ last → ∃ t, exec c s = .next t ∧ t = { s with nodes := t.nodes, lines := t.lines } ∧ s.VisitEnded t l
      ∧ t.node id = { n with misses := min 5 (n.misses + 1), outputPending := n.outputPending || v.command }
      ∧ ∀ j : NodeId, j.Exists → j ≠ id → t.node j = s.node j)
    ∧ (last → ∃ t, exec c s = .next t ∧ s.VisitEnded t l ∧ s.Silenced t (fun j => decide (j = id))
      ∧ (t.node id).misses = 5 ∧ (n.outputPending = true ∨ v.command = true → (t.node id).outputPending = true)
      ∧ (∀ z, z < 32 → ((t.zone z).pending.getLsbD 9 = true
          ↔ (s.zone z).pending.getLsbD 9 = true ∨ ((s.zone z).cfg.mask.getLsbD 9 = true ∧ s.Serves id z)))
      ∧ (k = .sign → t.sitePending = raised s.site.mask .signSilent s.sitePending)
      ∧ (k = .entry → t.sitePending = raised s.site.mask .entrySilent s.sitePending)
      ∧ (k ≠ .sign → k ≠ .entry → (∀ z, ¬ s.Serves id z) → t.sitePending = raised s.site.mask .nodeSilent s.sitePending)
      ∧ ((∃ z, s.Serves id z) → t.sitePending = s.sitePending)
      ∧ ∀ (z i : Nat) (g : Stage), k = .fan → z < 32 → (s.zone z).stages[i]? = some g → g.node = id →
          g.status = .starting ∨ g.status = .running →
          (∀ (j : Nat) (h : Stage), (s.zone z).stages[j]? = some h → h.node = id → j = i) →
          (t.zone z).stages[i]? = some { g with status := .faulted, cause := some .silent, proof := 0, rundown := 0 })

/-- A break measure of 20 ms takes a SCANNING line to FAULT: the visit is abandoned without a miss and its command set pending
again, every LIVE node of the line goes SILENT with its effects and NODE_SILENT in the zones it serves, LINE_FAULT is in SITE
where the mask has it, the probe timer is at 10, FAULT is asserted, and no other line changes (R72, R82, R88, R128). The
silence effects of several nodes have no order (R82; log entry 10), so a RUNNING stage whose fan goes silent with others may
end STOPPING, which silence leaves alone (R119), in place of FAULTED. The measure of 20 ms is the outside's to find (log entry
8). -/
def Obligations.BreakTakesTheLineToFault : Prop :=
  ∀ (s : State) (l : Nat), s.phase ≠ .held → s.Legal → l < 4 → (s.line l).state = .scanning → (s.line l).rxBreak = true →
    (s.line l).de = false →
    let silent := fun j : NodeId => decide (j.line = l) && decide ((s.node j).state = .live)
    ∃ t, exec (.breakDetected l) s = .next t ∧ s.FieldFrame t ∧ s.Silenced t silent ∧ t.out.fault = true
      ∧ t.line l = { s.line l with state := .fault, visit := none, breakMeasure := 0, probe := some 10, watch := false }
      ∧ (∀ i, i ≠ l → t.line i = s.line i)
      ∧ (∀ j : NodeId, j.Exists → (t.node j).misses = (s.node j).misses)
      ∧ (∀ v, (s.line l).visit = some v → v.command = true → (s.node ⟨l, v.address⟩).state ≠ .off →
          (t.node ⟨l, v.address⟩).outputPending = true)
      ∧ (t.sitePending.getLsbD 11 = true ↔ s.sitePending.getLsbD 11 = true ∨ s.site.mask.getLsbD 11 = true)
      ∧ ∀ z, z < 32 → ((t.zone z).pending.getLsbD 9 = true ↔ (s.zone z).pending.getLsbD 9 = true
          ∨ ((s.zone z).cfg.mask.getLsbD 9 = true ∧ ∃ j : NodeId, j.Exists ∧ silent j = true ∧ s.Serves j z))

/-- The probe timer at 0 begins a watch. A watch that sees the break starts the probe timer again at 10. A watch that sees the
idle level throughout returns the line to SCANNING with scan position and measure 0, every bound node of the line to be
learned again, and LINE_BACK in SITE where the mask has it. Nothing else changes (R83). -/
def Obligations.ProbeReturnsTheLine : Prop :=
  ∀ (s : State) (l : Nat), s.phase ≠ .held → s.OutputsExact → s.Legal → l < 4 → (s.line l).state = .fault →
    ((s.line l).probe = some 0 → ∃ t, exec (.probeTimerExpiry l) s = .next t ∧ t = { s with lines := t.lines }
      ∧ t.line l = { s.line l with probe := none, watch := true } ∧ ∀ i, i ≠ l → t.line i = s.line i)
    ∧ ((s.line l).watch = true → ∃ t, exec (.probeWatchEnd l false) s = .next t ∧ t = { s with lines := t.lines }
      ∧ t.line l = { s.line l with probe := some 10, watch := false } ∧ ∀ i, i ≠ l → t.line i = s.line i)
    ∧ ((s.line l).watch = true → ∃ t, exec (.probeWatchEnd l true) s = .next t
      ∧ t = { s with lines := t.lines, nodes := t.nodes, sitePending := t.sitePending, out := t.out } ∧ t.OutputsExact
      ∧ t.line l = { s.line l with state := .scanning, scan := 0, breakMeasure := 0, watch := false }
      ∧ (∀ i, i ≠ l → t.line i = s.line i) ∧ t.sitePending = raised s.site.mask .lineBack s.sitePending
      ∧ ∀ j : NodeId, j.Exists → t.node j = if j.line = l ∧ (s.node j).state ≠ .off then
          { s.node j with toggle := .any, marker := .none } else s.node j)

/-! ## What a fresh report does (chapters 1, 5, 6 and 7) -/

/-- A fresh report of a LIVE or SILENT row node moves each reported bay by the table of R5 and no other bay, restarts the
aisle timer where it carries motion, and is acknowledged; the tallies agree after it. A SILENT node goes LIVE in the same
visit with its output pending, and NODE_BACK is raised in the zones it serves, or in SITE (R4, R5, R13, R73, R78, R88,
R164). -/
def Obligations.RowReportMovesTheBays : Prop :=
  ∀ (s : State) (l : Nat) (v : Visit) (chars : List Char9) (tog m : Bool) (p : BitVec 16) (r n : Nat) (lights : LightSet),
    s.Legal → s.Waiting l v .row → parseReply .row v.address chars = some (.report tog (.row p m)) →
    (s.node ⟨l, v.address⟩).service = .row r n lights →
    (s.node ⟨l, v.address⟩).state = .live ∨ (s.node ⟨l, v.address⟩).state = .silent →
    (s.node ⟨l, v.address⟩).toggle.fresh tog = true →
    let silent := (s.node ⟨l, v.address⟩).state = .silent
    ∃ t, exec (.validReply l chars) s = .next t ∧ s.FieldFrame t ∧ s.HeardSite ⟨l, v.address⟩ t.sitePending
      ∧ (silent → (t.node ⟨l, v.address⟩).outputPending = true)
      ∧ (∀ z, z < 32 → ((t.zone z).pending.getLsbD 10 = true ↔ (s.zone z).pending.getLsbD 10 = true
          ∨ (silent ∧ (s.zone z).cfg.mask.getLsbD 10 = true ∧ s.Serves ⟨l, v.address⟩ z)))
      ∧ t.line l = { s.line l with visit := none } ∧ (∀ i, i ≠ l → t.line i = s.line i)
      ∧ (t.node ⟨l, v.address⟩).state = .live ∧ (t.node ⟨l, v.address⟩).misses = 0
      ∧ (t.node ⟨l, v.address⟩).marker = .none
      ∧ (t.node ⟨l, v.address⟩).toggle = (if tog = true then .zero else .one)
      ∧ (∃ lights', (t.node ⟨l, v.address⟩).service = .row r n lights'
          ∧ lights'.timer = if m = true then some s.site.aisleTicks else lights.timer)
      ∧ (∀ id : NodeId, id.Exists → id ≠ ⟨l, v.address⟩ → (s.node id).SameLink (t.node id))
      ∧ (∀ b, t.bay b = if b / 16 = r ∧ b % 16 < n ∧ (s.bay b).cls ≠ .retired then
            (match (s.bay b).census, p.getLsbD (b % 16) with
              | .vacant, true => { s.bay b with census := .arriving, stateTimer := s.site.settleTicks, hold := none }
              | .arriving, false => { s.bay b with census := .leaving, stateTimer := s.site.departTicks }
              | .parked, false => { s.bay b with census := .leaving, stateTimer := s.site.departTicks }
              | .leaving, true => { s.bay b with census := .arriving, stateTimer := s.site.settleTicks }
              | .dark, true => { s.bay b with census := .parked, hold := none }
              | .dark, false => { s.bay b with census := .vacant }
              | .vacant, false => s.bay b
              | .arriving, true => s.bay b
              | .parked, true => s.bay b
              | .leaving, false => s.bay b)
          else s.bay b)
      ∧ (s.TalliesAgree → t.TalliesAgree)

/-- A fresh report of a LIVE or SILENT gas node updates every zone with a slot on a valid channel, and no other: the sample
and age of each such slot, the end of the blind condition, I as the largest fresh sample, S moved toward I by R99, the band
procedure against the new S with its one event, and the demand figures; a band that enters PURGE ends a dwell. A SILENT node
goes LIVE in the same visit, with NODE_BACK raised (R73, R88, R92, R93, R96, R98, R99, R101, R102, R105, R124). -/
def Obligations.GasReportUpdatesTheZones : Prop :=
  ∀ (s : State) (l : Nat) (v : Visit) (chars : List Char9) (tog v0 v1 : Bool) (r0 r1 : Nat), s.Legal → s.Waiting l v .gas →
    parseReply .gas v.address chars = some (.report tog (.gas r0 v0 r1 v1)) →
    (s.node ⟨l, v.address⟩).state = .live ∨ (s.node ⟨l, v.address⟩).state = .silent → (s.node ⟨l, v.address⟩).toggle.fresh tog = true →
    let id : NodeId := ⟨l, v.address⟩
    let reading := fun g : Slot => if g.channel = 0 then r0 else r1
    let sampled := fun g : Slot => g.node = id ∧ (if g.channel = 0 then v0 else v1) = true
    ∃ t, exec (.validReply l chars) s = .next t ∧ s.VisitEnded t l ∧ t.bays = s.bays ∧ s.HeardSite id t.sitePending
      ∧ t.node id = { (s.node id).taken tog .none with outputPending := (t.node id).outputPending }
      ∧ ((s.node id).state = .silent → (t.node id).outputPending = true)
      ∧ (∀ j : NodeId, j.Exists → j ≠ id → (s.node j).SameLink (t.node j))
      ∧ ∀ z, z < 32 → ∃ x, s.HeardZone id z x ∧
        let y := t.zone z
        ((∀ g ∈ x.slots, ¬ sampled g) → y = x)
        ∧ ((∃ g ∈ x.slots, sampled g) →
          y.slots = (x.slots.map fun g =>
              if sampled g then { g with n := min 4095 (reading g * 1000 / g.ref), fresh := true, age := x.cfg.staleTicks }
              else g)
            ∧ y.blind = false ∧ (∀ g ∈ y.slots, g.fresh = true → g.n ≤ y.I) ∧ (∃ g ∈ y.slots, g.fresh = true ∧ g.n = y.I)
            ∧ y.S = (if x.S < y.I then x.S + (y.I - x.S + 2 ^ x.cfg.kRise - 1) / 2 ^ x.cfg.kRise
                else x.S - (x.S - y.I + 2 ^ x.cfg.kFall - 1) / 2 ^ x.cfg.kFall)
            ∧ y.band = bandAfter x.cfg y.S x.band
            ∧ y.pending.getLsbD 0 = (x.pending.getLsbD 0 || (x.cfg.mask.getLsbD 0 && decide (x.band.rank < y.band.rank)))
            ∧ y.pending.getLsbD 1 = (x.pending.getLsbD 1 || (x.cfg.mask.getLsbD 1 && decide (y.band.rank < x.band.rank)))
            ∧ y.pending.getLsbD 4 = x.pending.getLsbD 4
            ∧ y.pending.getLsbD 5 = (x.pending.getLsbD 5 || (x.cfg.mask.getLsbD 5 && x.blind))
            ∧ (x.FiguresExact → y.FiguresExact) ∧ (x.band ≠ .purge → y.band = .purge → y.seq ≠ .dwell))

/-- A fresh report of a LIVE or SILENT fan node reaches the stage that names it. TRIP takes any stage but a FAULTED one to
FAULTED with cause TRIP, with FAN_FAULT raised and, from STARTING or RUNNING, the node's output pending. What follows is as
the stage was: from IDLE, and from RUNNING with c fallen by one and the figures brought up to date, an IDLE sequencer clears
the short hold and re-evaluates; from STARTING the lowest-numbered IDLE stage starts in its place, or the sequence ends SHORT,
or with the target at or below c the sequencer re-evaluates; from STOPPING the step is counted and the dwell begins, or where
it is 0 or the band is PURGE the sequencer re-evaluates at once. PROOF without TRIP takes a STARTING stage to RUNNING and
counts the step; the dwell begins, and where it is 0 or the band is PURGE the sequencer re-evaluates at once. Any other report
changes no stage. A SILENT node goes LIVE in the same visit, with NODE_BACK raised in the zone (R73, R88, R118, R120 to
R124). -/
def Obligations.FanReportReachesTheStage : Prop :=
  ∀ (s : State) (l z i : Nat) (v : Visit) (chars : List Char9) (tog proof trip : Bool) (g : Stage), s.Legal →
    s.Waiting l v .fan → parseReply .fan v.address chars = some (.report tog (.fan proof trip)) →
    (s.node ⟨l, v.address⟩).state = .live ∨ (s.node ⟨l, v.address⟩).state = .silent →
    (s.node ⟨l, v.address⟩).toggle.fresh tog = true → z < 32 →
    (s.zone z).stages[i]? = some g → g.node = ⟨l, v.address⟩ →
    (∀ (y j : Nat) (h : Stage), (s.zone y).stages[j]? = some h → h.node = ⟨l, v.address⟩ → y = z ∧ j = i) →
    let id : NodeId := ⟨l, v.address⟩
    let x := if (s.node id).state = .silent then (s.zone z).raise .nodeBack else s.zone z
    ∃ t, exec (.validReply l chars) s = .next t ∧ s.VisitEnded t l ∧ t.bays = s.bays ∧ t.sitePending = s.sitePending
      ∧ ((s.node id).state = .silent → (t.node id).outputPending = true)
      ∧ (∀ z', z' ≠ z → t.zone z' = s.zone z')
      ∧ t.node id = { (s.node id).taken tog .none with outputPending := (t.node id).outputPending }
      ∧ (∀ j : NodeId, j.Exists → j ≠ id → (s.node j).SameLink (t.node j))
      ∧ (trip = true → g.status ≠ .faulted →
          (t.zone z).stages[i]? = some { g with status := .faulted, cause := some .trip, proof := 0, rundown := 0 }
            ∧ (t.zone z).pending.getLsbD 6 = (x.pending.getLsbD 6 || x.cfg.mask.getLsbD 6)
            ∧ (g.status = .starting ∨ g.status = .running → (t.node id).outputPending = true))
      ∧ (trip = true → g.status ≠ .faulted → ∃ w : Zone,
          w = { x with stages := w.stages, pending := raised x.cfg.mask .fanFault x.pending }
            ∧ (∀ j, w.stages[j]? = if j = i then
                some { g with status := .faulted, cause := some .trip, proof := 0, rundown := 0 } else x.stages[j]?)
            ∧ (g.status = .idle → (x.seq ≠ .idle → t.zone z = w)
                ∧ (x.seq = .idle → ({ w with shortHold := false } : Zone).ReEvaluated (t.zone z)))
            ∧ (g.status = .running → ∃ y : Zone, y = w.withFiguresOf y ∧ y.FiguresExact ∧ y.c + 1 = x.c
                ∧ (x.seq ≠ .idle → t.zone z = y)
                ∧ (x.seq = .idle → ({ y with shortHold := false } : Zone).ReEvaluated (t.zone z)))
            ∧ (∀ q, g.status = .stopping → x.sequence = some q → q.steps < 4 →
                let counted : Zone := { w with sequence := some { q with steps := q.steps + 1 } }
                (x.cfg.dwellDown ≠ 0 → x.band ≠ .purge →
                  t.zone z = { counted with seq := .dwell, dwell := x.cfg.dwellDown })
                ∧ (x.cfg.dwellDown = 0 ∨ x.band = .purge →
                  ({ counted with seq := .idle, dwell := 0 } : Zone).ReEvaluated (t.zone z)))
            ∧ ∀ q, g.status = .starting → x.sequence = some q →
                (∀ (j : Nat) (h : Stage), x.c < x.target → w.stages[j]? = some h → h.status = .idle →
                  (∀ k, k < j → ∀ y, w.stages[k]? = some y → y.status ≠ .idle) →
                  t.zone z = { w with stages := (t.zone z).stages }
                    ∧ ∀ k, (t.zone z).stages[k]? = if k = j then
                        some { h with status := .starting, cause := none, proof := x.cfg.proofTicks, rundown := 0 }
                      else w.stages[k]?)
                ∧ (x.c < x.target → (∀ h ∈ w.stages, h.status ≠ .idle) →
                  t.zone z = { w with sequence := none, last := ⟨q.origin, q.goal, q.steps, .short⟩, shortHold := true,
                                      seq := .idle, pending := raised x.cfg.mask .stageShort w.pending })
                ∧ (x.target ≤ x.c → ({ w with seq := .idle, dwell := 0 } : Zone).ReEvaluated (t.zone z)))
      ∧ (∀ q, trip = false → proof = true → g.status = .starting → x.cfg.dwellUp ≠ 0 → x.band ≠ .purge →
          x.sequence = some q → q.steps < 4 →
          (t.zone z).FiguresExact ∧ (t.zone z).c = x.c + 1 ∧ (t.zone z).seq = .dwell ∧ (t.zone z).dwell = x.cfg.dwellUp
            ∧ (t.zone z).sequence = some { q with steps := q.steps + 1 } ∧ (t.zone z).pending = x.pending
            ∧ (t.zone z).stages[i]? = some { g with status := .running, cause := none, proof := 0, rundown := 0 }
            ∧ ∀ j, j ≠ i → (t.zone z).stages[j]? = x.stages[j]?)
      ∧ (∀ q, trip = false → proof = true → g.status = .starting → x.cfg.dwellUp = 0 ∨ x.band = .purge →
          x.sequence = some q → q.steps < 4 →
          ∃ w : Zone, w = { x.withFiguresOf w with stages := w.stages, seq := .idle, dwell := 0,
                                                   sequence := some { q with steps := q.steps + 1 } }
            ∧ w.FiguresExact ∧ w.ReEvaluated (t.zone z)
            ∧ ∀ j, w.stages[j]? = if j = i then
                some { g with status := .running, cause := none, proof := 0, rundown := 0 } else x.stages[j]?)
      ∧ ((trip = true ∧ g.status = .faulted) ∨ (trip = false ∧ (proof = false ∨ g.status ≠ .starting)) → t.zone z = x)

/-- A fresh report of a LIVE or SILENT entry node: a request on an open answer without the acknowledgement is answered busy
and changes nothing else; the acknowledgement alone closes an open answer; a request taken is answered with the bay already
held for its ticket and entrance, or with a full hold on the bay that the selection chooses, or with FULL; a report with
neither effect changes no answer. A SILENT node goes LIVE in the same visit, with NODE_BACK raised in SITE (R73, R88, R134 to
R137, R144). -/
def Obligations.EntryReportIsAnswered : Prop :=
  ∀ (s : State) (l e : Nat) (v : Visit) (a : Answer) (chars : List Char9) (tog ack : Bool)
    (req : Option (BayClass × Nat)), s.Legal → s.OutputsExact → s.TalliesAgree → s.Waiting l v .entry →
    parseReply .entry v.address chars = some (.report tog (.entry ack req)) →
    (s.node ⟨l, v.address⟩).state = .live ∨ (s.node ⟨l, v.address⟩).state = .silent → (s.node ⟨l, v.address⟩).toggle.fresh tog = true →
    (s.node ⟨l, v.address⟩).service = .entry e a →
    let id : NodeId := ⟨l, v.address⟩
    let m : Marker := if a ≠ .ready ∧ ack = false ∧ req ≠ none then .busy else .none
    let n := (s.node id).taken tog m
    let answered := fun (t : State) (x : Answer) => t.node id = { n with service := .entry e x, outputPending := true }
    let free := a = .ready ∨ ack = true
    let unmoved := fun t : State => t = { s with nodes := t.nodes, lines := t.lines, sitePending := t.sitePending, out := t.out }
    ∃ t, exec (.validReply l chars) s = .next t ∧ s.VisitEnded t l ∧ t.OutputsExact
      ∧ ((s.node id).state = .live → t.sitePending = s.sitePending)
      ∧ ((s.node id).state = .silent → t.sitePending = raised s.site.mask .nodeBack s.sitePending)
      ∧ (∀ j : NodeId, j.Exists → j ≠ id → (s.node j).SameLink (t.node j))
      ∧ (¬ free ∨ (req = none ∧ (a = .ready ∨ ack = false)) → t.node id = n ∧ unmoved t)
      ∧ (req = none → a ≠ .ready → ack = true → answered t .ready ∧ unmoved t)
      ∧ ∀ c ticket, req = some (c, ticket) → free →
        let held := fun b => ∃ h, (s.bay b).hold = some h ∧ h.ticket = ticket ∧ h.entrance = e
        (∀ b, held b → (∀ i, i < b → ¬ held i) →
          answered t (.offer ticket b (s.bay b).zone) ∧ unmoved t)
        ∧ ((∀ b, ¬ held b) → s.selection e c = none → answered t (.full ticket) ∧ unmoved t)
        ∧ ∀ b, (∀ i, ¬ held i) → s.selection e c = some b →
          answered t (.offer ticket b (s.bay b).zone)
            ∧ t.bay b = { s.bay b with hold := some ⟨ticket, e, s.site.holdTicks⟩ }
            ∧ (∀ i, i ≠ b → t.bay i = s.bay i) ∧ (∀ z, z ≠ (s.bay b).zone → t.zone z = s.zone z) ∧ t.TalliesAgree

/-! ## Fume and ventilation (chapters 5 and 6) -/

/-- An age timer at 0 makes its slot stale and changes no other slot; I is the largest fresh sample left, S and the band stay,
and a zone with no fresh slot left is blind, with BLIND raised when it becomes so (R94, R96, R98). -/
def Obligations.AgeTimerMakesTheSlotStale : Prop :=
  ∀ (s : State) (z i : Nat) (g : Slot), s.phase ≠ .held → s.Legal → z < 32 → (s.zone z).slots[i]? = some g →
    g.fresh = true → g.age = 0 →
    ∃ t, exec (.ageTimerExpiry z (i + 1)) s = .next t ∧ t.buffer = s.buffer ∧ s.ZoneFrame z t
      ∧ (∀ j, (t.zone z).slots[j]? = if j = i then some { g with fresh := false, age := 0 } else (s.zone z).slots[j]?)
      ∧ (∀ h ∈ (t.zone z).slots, h.fresh = true → h.n ≤ (t.zone z).I)
      ∧ ((t.zone z).I = 0 ∨ ∃ h ∈ (t.zone z).slots, h.fresh = true ∧ h.n = (t.zone z).I)
      ∧ (t.zone z).S = (s.zone z).S ∧ (t.zone z).band = (s.zone z).band ∧ (t.zone z).cfg = (s.zone z).cfg
      ∧ ((t.zone z).blind = true ↔ ∀ h ∈ (t.zone z).slots, h.fresh = false)
      ∧ (t.zone z).pending.getLsbD 4
        = ((s.zone z).pending.getLsbD 4 || ((s.zone z).cfg.mask.getLsbD 4 && (t.zone z).blind))
      ∧ ((s.zone z).FiguresExact → (t.zone z).FiguresExact)

/-- ZONE_FLOOR stores the host floor of an IN_USE zone as given and brings the demand figures up to date; where the target
moves, an IDLE sequencer clears the short hold and re-evaluates, and nothing else of the zone changes; a value above 4 or a
zone above 31 is refused with RANGE and a FREE zone with STATE (R112, R115, R120). -/
def Obligations.ZoneFloorSetsTheFloor : Prop :=
  ∀ (s : State) (z f : Nat), s.Ready → s.OutputsExact →
    (¬ (z < 32 ∧ f ≤ 4) → exec (.zoneFloor z f) s = .next (s.onlyAnswered 7 25 .range []))
    ∧ (z < 32 → f ≤ 4 → (s.zone z).inUse = false → exec (.zoneFloor z f) s = .next (s.onlyAnswered 7 25 .state []))
    ∧ (z < 32 → f ≤ 4 → (s.zone z).inUse = true → ∃ t, exec (.zoneFloor z f) s = .next t ∧ t.AnsweredDone 25 []
      ∧ s.ZoneFrame z t ∧ ({ s.zone z with hostFloor := f } : Zone).SameAir (t.zone z)
      ∧ (t.zone z).tallies = (s.zone z).tallies ∧ (t.zone z).FiguresExact
      ∧ ∃ w : Zone, w = { (s.zone z).withFiguresOf w with hostFloor := f } ∧ w.FiguresExact
        ∧ ((s.zone z).seq ≠ .idle ∨ w.target = (s.zone z).target → t.zone z = w)
        ∧ ((s.zone z).seq = .idle → w.target ≠ (s.zone z).target →
            ({ w with shortHold := false } : Zone).ReEvaluated (t.zone z)))

/-- FAN_RESET takes a FAULTED stage to IDLE and clears the short hold. While a step or a dwell is in progress nothing else of
the zone changes; an IDLE sequencer re-evaluates, so that with a target above c it begins a sequence, and the lowest-numbered
IDLE stage goes STARTING. A stage that is not FAULTED, a number past the list and a FREE zone are refused with STATE (R120,
R121, R126). -/
def Obligations.FanResetReturnsTheStage : Prop :=
  ∀ (s : State) (z i : Nat), s.Ready → s.OutputsExact → z < 32 → i < 4 →
    let x := s.zone z
    let rest := fun g : Stage => ({ g with status := .idle, cause := none, proof := 0, rundown := 0 } : Stage)
    (x.inUse = false ∨ x.stages.length ≤ i ∨ (∃ g, x.stages[i]? = some g ∧ g.status ≠ .faulted) →
      exec (.fanReset z (i + 1)) s = .next (s.onlyAnswered 7 26 .state []))
    ∧ ∀ g, x.inUse = true → x.stages[i]? = some g → g.status = .faulted →
      ∃ t, exec (.fanReset z (i + 1)) s = .next t ∧ t.AnsweredDone 26 [] ∧ s.ZoneFrame z t
        ∧ (x.seq ≠ .idle ∨ (x.sequence = none ∧ x.target = x.c) →
          t.zone z = { x with stages := (t.zone z).stages, shortHold := false }
            ∧ ∀ j, (t.zone z).stages[j]? = if j = i then some (rest g) else x.stages[j]?)
        ∧ (∀ (j : Nat) (h : Stage), x.seq = .idle → x.sequence = none → x.c < x.target →
            (if j = i then some (rest g) else x.stages[j]?) = some h → h.status = .idle →
            (∀ k, k < j → ∀ y, x.stages[k]? = some y → y.status ≠ .idle ∧ k ≠ i) →
          t.zone z = { x with stages := (t.zone z).stages, shortHold := false, seq := .stepUp,
                              sequence := some ⟨.up, x.c, x.target, 0⟩ }
            ∧ ∀ k, (t.zone z).stages[k]? = if k = j then
                some { h with status := .starting, cause := none, proof := x.cfg.proofTicks, rundown := 0 }
              else if k = i then some (rest g) else x.stages[k]?)
        ∧ (x.seq = .idle → ∃ w : Zone, w = { x with stages := w.stages, shortHold := false } ∧ w.ReEvaluated (t.zone z)
          ∧ ∀ j, w.stages[j]? = if j = i then some (rest g) else x.stages[j]?)

/-- The proof timer at 0 of a STARTING stage makes it FAULTED with cause NO_PROOF and raises FAN_FAULT; with the target above
c the lowest-numbered IDLE stage is started in its place, or the sequence ends SHORT with STAGE_SHORT raised and the short
hold set; with the target at or below c the sequencer goes to IDLE with no dwell and re-evaluates; nothing else of the zone
changes (R120, R122, R128). -/
def Obligations.ProofTimerFaultsTheStage : Prop :=
  ∀ (s : State) (z i : Nat) (g : Stage) (q : Sequence), s.phase ≠ .held → s.Legal → z < 32 →
    (s.zone z).stages[i]? = some g → g.status = .starting → g.proof = 0 → (s.zone z).sequence = some q →
    let x := s.zone z
    let failed : Stage := { g with status := .faulted, cause := some .noProof, proof := 0, rundown := 0 }
    ∃ t, exec (.proofTimerExpiry z (i + 1)) s = .next t ∧ t.buffer = s.buffer ∧ s.ZoneFrame z t ∧ t.out.fault = true
      ∧ (∀ (j : Nat) (h : Stage), x.c < x.target → x.stages[j]? = some h → h.status = .idle →
          (∀ k, k < j → ∀ y, x.stages[k]? = some y → y.status ≠ .idle) →
          t.zone z = { x with stages := (t.zone z).stages, pending := raised x.cfg.mask .fanFault x.pending }
            ∧ ∀ k, (t.zone z).stages[k]? = if k = i then some failed else if k = j then
                some { h with status := .starting, cause := none, proof := x.cfg.proofTicks, rundown := 0 }
              else x.stages[k]?)
      ∧ (x.target ≤ x.c → ∃ w : Zone, w.ReEvaluated (t.zone z)
          ∧ w = { x with stages := w.stages, seq := .idle, dwell := 0, pending := raised x.cfg.mask .fanFault x.pending }
          ∧ ∀ k, w.stages[k]? = if k = i then some failed else x.stages[k]?)
      ∧ (x.c < x.target → (∀ h ∈ x.stages, h.status ≠ .idle) →
          t.zone z = { x with stages := (t.zone z).stages, sequence := none, last := ⟨q.origin, q.goal, q.steps, .short⟩,
                              shortHold := true, seq := .idle,
                              pending := raised x.cfg.mask .stageShort (raised x.cfg.mask .fanFault x.pending) }
            ∧ ∀ k, (t.zone z).stages[k]? = if k = i then some failed else x.stages[k]?)

/-- The rundown timer at 0 of a STOPPING stage makes it IDLE, counts the step and begins the dwell, or re-evaluates at once
where the dwell is 0 or the band is PURGE. The dwell timer at 0 ends the dwell, and the sequencer re-evaluates: a sequence
that has met its target ends DONE in the last-sequence record; one that still lacks stages starts the lowest-numbered IDLE
stage toward the present target, or ends SHORT; one that has too many takes the highest-numbered RUNNING stage to STOPPING, c
falls and the figures follow; and one whose target has gone to the other side ends CUT and a new one begins. Nothing else of
the zone changes. A ZONE_SET that takes the band into PURGE ends a dwell in the same way, toward every stage of the zone (R120
to R124). -/
def Obligations.RundownAndDwellEndTheStep : Prop :=
  ∀ (s : State) (z : Nat) (q : Sequence), s.phase ≠ .held → s.Legal → z < 32 → (s.zone z).sequence = some q →
    let x := s.zone z
    (∀ (i : Nat) (g : Stage), x.stages[i]? = some g → g.status = .stopping → g.rundown = 0 → x.cfg.dwellDown ≠ 0 →
        x.band ≠ .purge → q.steps < 4 →
      ∃ t, exec (.rundownTimerExpiry z (i + 1)) s = .next t ∧ t.buffer = s.buffer ∧ s.ZoneFrame z t
        ∧ t.zone z = { x with stages := (t.zone z).stages, sequence := some { q with steps := q.steps + 1 },
                              seq := .dwell, dwell := x.cfg.dwellDown }
        ∧ ∀ k, (t.zone z).stages[k]? = if k = i then
            some { g with status := .idle, cause := none, proof := 0, rundown := 0 } else x.stages[k]?)
    ∧ (x.seq = .dwell → x.dwell = 0 → x.target = x.c →
      ∃ t, exec (.dwellTimerExpiry z) s = .next t ∧ t.buffer = s.buffer ∧ s.ZoneFrame z t
        ∧ t.zone z = { x with seq := .idle, sequence := none, last := ⟨q.origin, q.goal, q.steps, .done⟩ })
    ∧ (∀ (i : Nat) (g : Stage), x.stages[i]? = some g → g.status = .stopping → g.rundown = 0 →
        x.cfg.dwellDown = 0 ∨ x.band = .purge → q.steps < 4 →
      ∃ t, exec (.rundownTimerExpiry z (i + 1)) s = .next t ∧ t.buffer = s.buffer ∧ s.ZoneFrame z t
        ∧ ∃ w : Zone, w.ReEvaluated (t.zone z)
          ∧ w = { x with stages := w.stages, sequence := some { q with steps := q.steps + 1 }, seq := .idle, dwell := 0 }
          ∧ ∀ k, w.stages[k]? = if k = i then
              some { g with status := .idle, cause := none, proof := 0, rundown := 0 } else x.stages[k]?)
    ∧ (x.seq = .dwell → x.dwell = 0 →
      ∃ t, exec (.dwellTimerExpiry z) s = .next t ∧ t.buffer = s.buffer ∧ s.ZoneFrame z t
        ∧ ({ x with seq := .idle, dwell := 0 } : Zone).ReEvaluated (t.zone z))
    ∧ (∀ cfg : ZoneParams, s.Ready → s.TalliesAgree → zoneParamsInRange cfg = true → x.seq = .dwell → x.band ≠ .purge →
        bandAfter cfg x.S x.band = .purge →
      ∃ t, exec (.zoneSetInUse z 1 cfg) s = .next t ∧ t.AnsweredDone 6 [] ∧ s.ZoneFrame z t ∧ (t.zone z).band = .purge
        ∧ (t.zone z).target = x.N ∧ (t.zone z).dwell = 0
        ∧ (x.c = x.N → (t.zone z).seq = .idle ∧ (t.zone z).sequence = none
            ∧ (t.zone z).last = ⟨q.origin, q.goal, q.steps, .done⟩ ∧ (t.zone z).stages = x.stages)
        ∧ (x.c < x.N → (∀ h ∈ x.stages, h.status ≠ .idle) → (t.zone z).seq = .idle ∧ (t.zone z).sequence = none
            ∧ (t.zone z).last.outcome = .short ∧ (t.zone z).shortHold = true ∧ (t.zone z).stages = x.stages)
        ∧ ∀ (j : Nat) (h : Stage), x.c < x.N → x.stages[j]? = some h → h.status = .idle →
            (∀ k, k < j → ∀ y, x.stages[k]? = some y → y.status ≠ .idle) →
            (t.zone z).seq = .stepUp ∧ (t.zone z).last = x.lastToward .up
              ∧ (t.zone z).sequence = some (({ x with target := x.N } : Zone).sequenceToward .up)
              ∧ ∀ k, (t.zone z).stages[k]? = if k = j then
                  some { h with status := .starting, cause := none, proof := cfg.proofTicks, rundown := 0 } else x.stages[k]?)
    ∧ ∀ (j : Nat) (h : Stage), x.seq = .dwell → x.dwell = 0 → x.c < x.target → q.dir = .up →
      x.stages[j]? = some h → h.status = .idle → (∀ k, k < j → ∀ y, x.stages[k]? = some y → y.status ≠ .idle) →
      ∃ t, exec (.dwellTimerExpiry z) s = .next t ∧ t.buffer = s.buffer ∧ s.ZoneFrame z t
        ∧ t.zone z = { x with stages := (t.zone z).stages, seq := .stepUp, sequence := some { q with goal := x.target } }
        ∧ ∀ k, (t.zone z).stages[k]? = if k = j then
            some { h with status := .starting, cause := none, proof := x.cfg.proofTicks, rundown := 0 } else x.stages[k]?

/-! ## Signs, events, lighting, CLEAR and the tick (chapters 8 to 11) -/

/-- SIGN_SET writes the whole sign record, computes its value over the zone set, answers the value, and marks the node it
named and the node it names; nothing else changes. Its four refusals are RANGE, STATE for the node, STATE for a FREE zone of
the set, and CONFLICT, in that order (R150, R154, R155). -/
def Obligations.SignSetWritesTheSign : Prop :=
  ∀ (s : State) (i l a k f : Nat) (zs : ZoneSet) (text : List Byte), s.Ready → s.OutputsExact →
    let clocked := 15 + text.length
    let node : Option NodeId := if a = 0 then none else some ⟨l, a⟩
    let good := i < 32 ∧ (a = 0 ∨ (l < 4 ∧ 1 ≤ a ∧ a ≤ 63)) ∧ k ≤ 2 ∧ f ≤ 4 ∧ text.length ≤ 16
      ∧ ∀ b ∈ text, 32 ≤ b.toNat ∧ b.toNat ≤ 126
    let bound := a = 0 ∨ (s.node ⟨l, a⟩).service = .sign
    let inUse := ∀ z, z < 32 → zs.getLsbD z = true → (s.zone z).inUse = true
    let once := a = 0 ∨ ∀ j, j < 32 → j ≠ i → (s.sign j).node ≠ some ⟨l, a⟩
    s.Legal →
    (¬ good → exec (.signSet i l a k zs f text) s = .next (s.onlyAnswered clocked 29 .range []))
    ∧ (good → ¬ bound → exec (.signSet i l a k zs f text) s = .next (s.onlyAnswered clocked 29 .state []))
    ∧ (good → bound → ¬ inUse → exec (.signSet i l a k zs f text) s = .next (s.onlyAnswered clocked 29 .state []))
    ∧ (good → bound → inUse → ¬ once →
        exec (.signSet i l a k zs f text) s = .next (s.onlyAnswered clocked 29 .conflict []))
    ∧ (good → bound → inUse → once → ∃ t, exec (.signSet i l a k zs f text) s = .next t
      ∧ t = { s.onlyAnswered clocked 29 .done (u16 (t.sign i).value) with signs := t.signs, nodes := t.nodes }
      ∧ (t.sign i).node = node ∧ (t.sign i).mode.code = k ∧ (t.sign i).zones = zs ∧ (t.sign i).filter.code = f
      ∧ (t.sign i).text = text
      ∧ (t.sign i).value = min 999 (((List.range 32).filter fun z => zs.getLsbD z).map fun z =>
          (t.sign i).filter.countOf (s.zone z).tallies).sum
      ∧ (∀ j, j ≠ i → t.sign j = s.sign j)
      ∧ ∀ id : NodeId, id.Exists → t.node id =
          if (some id = (s.sign i).node ∨ some id = node) ∧ (s.node id).state ≠ .off then
            { s.node id with outputPending := true } else s.node id)

/-- EVENTS_TAKE of a set with kinds of that set answers the members present and clears those named, and no other set; any
other set or kind is refused with RANGE (R174, R176). EVENTS_SUMMARY answers the numbers of the non-empty sets in rising order
and changes nothing else (R175). -/
def Obligations.EventRequestsReadAndClear : Prop :=
  ∀ (s : State) (m : EventSet), s.Ready → s.OutputsExact →
    let members := fun n => if n < 32 then (s.zone n).pending else s.sitePending
    let mine := fun n : Nat => m &&& (if n < 32 then 0xF800#16 else 0x01FF#16) = 0#16
    let answer := fun n => [u8 n, BitVec.ofNat 8 ((members n).toNat / 256), BitVec.ofNat 8 (members n).toNat]
    (∀ n, ¬ (n ≤ 32 ∧ mine n) → exec (.eventsTake n m) s = .next (s.onlyAnswered 8 31 .range []))
    ∧ (∀ n, n < 32 → mine n → ∃ t, exec (.eventsTake n m) s = .next t
      ∧ t = { s.onlyAnswered 8 31 .done (answer n) with zones := t.zones, out := t.out } ∧ t.OutputsExact
      ∧ t.zone n = { s.zone n with pending := (s.zone n).pending &&& ~~~m } ∧ ∀ z, z ≠ n → t.zone z = s.zone z)
    ∧ (mine 32 → ∃ t, exec (.eventsTake 32 m) s = .next t ∧ t.OutputsExact
      ∧ t = { s.onlyAnswered 8 31 .done (answer 32) with sitePending := s.sitePending &&& ~~~m, out := t.out })
    ∧ ∃ ns : List Nat, exec .eventsSummary s = .next (s.onlyAnswered 5 32 .done (u8 ns.length :: ns.map u8))
      ∧ ns.Pairwise (· < ·) ∧ ∀ n, n ∈ ns ↔ n ≤ 32 ∧ members n ≠ 0#16

/-- An aisle timer at 0 is stopped, its node's light set is derived afresh, and the node is marked when the set differs;
nothing else changes (R164 to R166). -/
def Obligations.AisleTimerStops : Prop :=
  ∀ (s : State) (l a r n : Nat) (lights : LightSet), s.phase ≠ .held → s.OutputsExact → l < 4 → 1 ≤ a → a ≤ 63 →
    (s.node ⟨l, a⟩).service = .row r n lights → lights.timer = some 0 →
    ∃ t, exec (.aisleTimerExpiry l a) s = .next t ∧ t = { s with nodes := t.nodes }
      ∧ t.node ⟨l, a⟩ = { s.node ⟨l, a⟩ with
          service := .row r n (s.lightsOf r n none)
          outputPending := (s.node ⟨l, a⟩).outputPending
            || decide (s.lightsOf r n none ≠ { lights with timer := none }) }
      ∧ ∀ j : NodeId, j.Exists → j ≠ ⟨l, a⟩ → t.node j = s.node j

/-- CLEAR drops the edit, takes every bay in service to DARK without a timer or a hold, makes every SILENT node LIVE and every
bound node to be learned and sent again, makes every slot stale with I 0, closes every open answer, stops every aisle timer
and empties every pending set; layout, configuration, bindings, S, band and the line records are kept, PURGE and FAULT do not
change, and the counts, values, light sets and figures are brought up to date (R26, R90, R108, R130, R148, R159, R170, R178,
R184). -/
def Obligations.ClearForgetsTheLiveRecords : Prop :=
  ∀ s : State, s.Ready → s.OutputsExact → s.Legal →
    ∃ t, exec .clear s = .next t ∧ t.AnsweredDone 33 [] ∧ t.edit = none ∧ t.sitePending = 0#16
      ∧ t.out = { s.out with rdy := true, attn := false }
      ∧ t.phase = s.phase ∧ t.ticks = s.ticks ∧ t.ignoring = s.ignoring ∧ t.routes = s.routes ∧ t.site = s.site
      ∧ t.lines = s.lines
      ∧ (∀ b, t.bay b = if (s.bay b).cls = .retired then s.bay b
          else { s.bay b with census := .dark, stateTimer := 0, hold := none })
      ∧ (∀ id : NodeId, id.Exists → (s.node id).state = .off → t.node id = s.node id)
      ∧ (∀ id : NodeId, id.Exists → (s.node id).state ≠ .off →
          (t.node id).state = (if (s.node id).state = .silent then .live else (s.node id).state)
            ∧ (t.node id).misses = (if (s.node id).state = .barred then (s.node id).misses else 0)
            ∧ (t.node id).toggle = .any ∧ (t.node id).marker = .none ∧ (t.node id).outputPending = true
            ∧ (t.node id).service.kind = (s.node id).service.kind
            ∧ (∀ r n g, (s.node id).service = .row r n g → (t.node id).service = .row r n (t.lightsOf r n none))
            ∧ ∀ e x, (s.node id).service = .entry e x → (t.node id).service = .entry e .ready)
      ∧ (∀ z, z < 32 →
          let x := s.zone z
          let y := t.zone z
          y.inUse = x.inUse ∧ y.cfg = x.cfg ∧ y.hostShed = x.hostShed ∧ y.hostFloor = x.hostFloor ∧ y.S = x.S
            ∧ y.band = x.band ∧ y.I = 0 ∧ y.slots = (x.slots.map fun g => { g with fresh := false, age := 0 })
            ∧ y.blind = !x.slots.isEmpty ∧ y.pending = 0#16 ∧ y.stages.map (·.node) = x.stages.map (·.node)
            ∧ y.tallies.arriving = 0 ∧ y.tallies.leaving = 0 ∧ y.tallies.holds = 0 ∧ y.FiguresExact)
      ∧ (∀ i, (s.sign i).SameFields (t.sign i)) ∧ t.TalliesAgree ∧ t.SignsExact

/-- A tick counts every running timer down by one: the state and hold timers of the bays, the age timers of fresh slots, the
proof, rundown and dwell timers, the aisle timers, the probe timers and the window timer; a timer at 0 stays there until its
expiry is carried out (log entry 5), and nothing else changes but the tick count (R6, R7, R12, R44, R82, R94, R117, R124,
R164, R185). -/
def Obligations.TickCountsTheTimersDown : Prop :=
  ∀ s : State, s.phase ≠ .held → s.OutputsExact → s.Legal → s.SequencersLegal →
    ∃ t, exec .tick s = .next t
      ∧ t = { s with ticks := s.ticks + 1, bays := t.bays, zones := t.zones, nodes := t.nodes, lines := t.lines,
                     edit := s.edit.map fun e => { e with window := e.window - 1 } }
      ∧ (∀ b, t.bay b = { s.bay b with stateTimer := (s.bay b).stateTimer - 1,
                                       hold := (s.bay b).hold.map fun h => { h with timer := h.timer - 1 } })
      ∧ (∀ z, t.zone z = { s.zone z with
          slots := (s.zone z).slots.map fun g => { g with age := g.age - 1 }
          stages := (s.zone z).stages.map fun g => { g with proof := g.proof - 1, rundown := g.rundown - 1 }
          dwell := (s.zone z).dwell - 1 })
      ∧ (∀ id : NodeId, id.Exists →
          (∀ r n g, (s.node id).service = .row r n g →
            t.node id = { s.node id with service := .row r n { g with timer := g.timer.map (· - 1) } })
          ∧ ((s.node id).service.kind ≠ some .row → t.node id = s.node id))
      ∧ ∀ l, t.line l = { s.line l with probe := (s.line l).probe.map (· - 1) }
end

