-- ==== Sys2Proof/Laws/FanSequencer.lean ====
section
/-! SUPPORT. What the operations on one zone record leave as it was. -/

namespace Sys2Proof.Machine

theorem Zone.SameAir.refl (x : Zone) : x.SameAir x := ⟨rfl, rfl, rfl, rfl, rfl, rfl, rfl, rfl, rfl⟩

theorem Zone.SameAir.trans {x y z : Zone} (h : x.SameAir y) (k : y.SameAir z) : x.SameAir z :=
  ⟨k.inUse.trans h.inUse, k.cfg.trans h.cfg, k.hostShed.trans h.hostShed, k.hostFloor.trans h.hostFloor,
   k.slots.trans h.slots, k.I.trans h.I, k.S.trans h.S, k.band.trans h.band, k.blind.trans h.blind⟩

/-- Two zone records that agree on what the ventilation unit does not write: the settings, the fume part and the tallies. -/
structure Zone.SameInputs (x y : Zone) : Prop where
  air : x.SameAir y
  tallies : y.tallies = x.tallies

theorem Zone.SameInputs.refl (x : Zone) : x.SameInputs x := ⟨.refl x, rfl⟩

theorem Zone.SameInputs.trans {x y z : Zone} (h : x.SameInputs y) (k : y.SameInputs z) : x.SameInputs z :=
  ⟨h.air.trans k.air, k.tallies.trans h.tallies⟩

theorem Zone.figures_inputs (z : Zone) : z.SameInputs z.figures := ⟨⟨rfl, rfl, rfl, rfl, rfl, rfl, rfl, rfl, rfl⟩, rfl⟩

theorem Zone.changeStage_inputs (z : Zone) (i : Nat) (f : Stage → Stage) : z.SameInputs (z.changeStage i f) :=
  ⟨⟨rfl, rfl, rfl, rfl, rfl, rfl, rfl, rfl, rfl⟩, rfl⟩

theorem Zone.raise_inputs (z : Zone) (k : EventKind) : z.SameInputs (z.raise k) :=
  ⟨⟨rfl, rfl, rfl, rfl, rfl, rfl, rfl, rfl, rfl⟩, rfl⟩

theorem Zone.countStep_inputs (z : Zone) : z.SameInputs z.countStep := by
  unfold Zone.countStep
  split <;> exact ⟨⟨rfl, rfl, rfl, rfl, rfl, rfl, rfl, rfl, rfl⟩, rfl⟩

theorem Zone.endSequence_inputs (z : Zone) (o : SeqOutcome) : z.SameInputs (z.endSequence o) := by
  unfold Zone.endSequence
  split <;> exact ⟨⟨rfl, rfl, rfl, rfl, rfl, rfl, rfl, rfl, rfl⟩, rfl⟩

theorem Zone.endShort_inputs (z : Zone) : z.SameInputs z.endShort :=
  (z.endSequence_inputs .short).trans
    (((z.endSequence .short).raise_inputs .stageShort).trans ⟨⟨rfl, rfl, rfl, rfl, rfl, rfl, rfl, rfl, rfl⟩, rfl⟩)

theorem Zone.stepUp_inputs (z : Zone) : z.SameInputs z.stepUp := by
  unfold Zone.stepUp
  split
  · exact ⟨⟨rfl, rfl, rfl, rfl, rfl, rfl, rfl, rfl, rfl⟩, rfl⟩
  · exact z.endShort_inputs

theorem Zone.stepDown_inputs (z : Zone) : z.SameInputs z.stepDown := by
  unfold Zone.stepDown
  split
  · exact ⟨⟨rfl, rfl, rfl, rfl, rfl, rfl, rfl, rfl, rfl⟩, rfl⟩
  · exact .refl z

theorem Zone.step_inputs (z : Zone) (d : Direction) : z.SameInputs (z.step d) := by
  cases d
  · exact z.stepUp_inputs
  · exact z.stepDown_inputs

theorem Zone.beginSequence_inputs (z : Zone) : z.SameInputs z.beginSequence := by
  unfold Zone.beginSequence
  dsimp only
  refine Zone.SameInputs.trans ?_ (Zone.step_inputs _ _)
  exact ⟨⟨rfl, rfl, rfl, rfl, rfl, rfl, rfl, rfl, rfl⟩, rfl⟩

theorem Zone.reEvaluate_inputs (z : Zone) : z.SameInputs z.reEvaluate := by
  unfold Zone.reEvaluate
  split
  · split
    · exact .refl z
    · exact z.beginSequence_inputs
  · split
    · exact z.endSequence_inputs .done
    · split
      · refine Zone.SameInputs.trans ?_ (Zone.step_inputs _ _)
        exact ⟨⟨rfl, rfl, rfl, rfl, rfl, rfl, rfl, rfl, rfl⟩, rfl⟩
      · exact (z.endSequence_inputs .cut).trans (Zone.beginSequence_inputs _)

theorem Zone.enterIdle_inputs (z : Zone) : z.SameInputs z.enterIdle := by
  refine Zone.SameInputs.trans ?_ (Zone.reEvaluate_inputs _)
  exact ⟨⟨rfl, rfl, rfl, rfl, rfl, rfl, rfl, rfl, rfl⟩, rfl⟩

theorem Zone.enterDwell_inputs (z : Zone) (n : Nat) : z.SameInputs (z.enterDwell n) := by
  unfold Zone.enterDwell
  split
  · exact z.enterIdle_inputs
  · exact ⟨⟨rfl, rfl, rfl, rfl, rfl, rfl, rfl, rfl, rfl⟩, rfl⟩

theorem Zone.tellSequencer_inputs (z : Zone) : z.SameInputs z.tellSequencer := by
  unfold Zone.tellSequencer
  split
  · refine Zone.SameInputs.trans ?_ (Zone.reEvaluate_inputs _)
    exact ⟨⟨rfl, rfl, rfl, rfl, rfl, rfl, rfl, rfl, rfl⟩, rfl⟩
  · exact .refl z

/-- A change of the demand part writes the ventilation unit's fields and the pending set only (R112). -/
theorem Zone.demandChange_inputs (z : Zone) (p : Bool) : z.SameInputs (z.demandChange p) := by
  unfold Zone.demandChange
  refine z.figures_inputs.trans ?_
  dsimp only
  split
  · exact Zone.enterIdle_inputs _
  · split
    · exact .refl _
    · exact Zone.tellSequencer_inputs _

theorem Zone.stepUpFailed_inputs (z : Zone) : z.SameInputs z.stepUpFailed := by
  unfold Zone.stepUpFailed
  split
  · split
    · exact z.changeStage_inputs _ _
    · exact z.endShort_inputs
  · exact z.enterIdle_inputs

theorem Zone.stepDownEnded_inputs (z : Zone) : z.SameInputs z.stepDownEnded :=
  z.countStep_inputs.trans (Zone.enterDwell_inputs _ _)

/-- A stage that goes FAULTED, with all that follows, leaves the settings, the fume part and the tallies (R118, R119, R122). -/
theorem Zone.faultStage_inputs (z : Zone) (i : Nat) (c : Cause) : z.SameInputs (z.faultStage i c) := by
  have h : z.SameInputs ((z.changeStage i (Stage.fail c)).raise .fanFault) :=
    (z.changeStage_inputs i _).trans (Zone.raise_inputs _ _)
  unfold Zone.faultStage
  dsimp only
  split
  · exact h.trans (Zone.tellSequencer_inputs _)
  · exact h.trans (Zone.stepUpFailed_inputs _)
  · exact h.trans ((Zone.figures_inputs _).trans (Zone.tellSequencer_inputs _))
  · exact h.trans (Zone.stepDownEnded_inputs _)
  · exact .refl z

theorem Zone.proveStage_inputs (z : Zone) (i : Nat) : z.SameInputs (z.proveStage i) := by
  unfold Zone.proveStage
  split
  · exact ((z.changeStage_inputs i _).trans (Zone.figures_inputs _)).trans
      ((Zone.countStep_inputs _).trans (Zone.enterDwell_inputs _ _))
  all_goals exact .refl z

theorem Zone.silenceStage_inputs (z : Zone) (i : Nat) : z.SameInputs (z.silenceStage i) := by
  unfold Zone.silenceStage
  split
  · exact z.faultStage_inputs i .silent
  · exact z.faultStage_inputs i .silent
  all_goals exact .refl z

theorem Zone.raiseIf_inputs (z : Zone) (b : Bool) (k : EventKind) : z.SameInputs (z.raiseIf b k) := by
  unfold Zone.raiseIf
  split
  · exact z.raise_inputs k
  · exact .refl z

/-- Taking new tallies leaves the settings and the fume part (R18, R20). -/
theorem Zone.takeTallies_air (z : Zone) (t : Tallies) : z.SameAir (z.takeTallies t) := by
  have h : z.SameAir { z with tallies := t } := ⟨rfl, rfl, rfl, rfl, rfl, rfl, rfl, rfl, rfl⟩
  unfold Zone.takeTallies
  dsimp only
  split
  · exact ((h.trans (Zone.raiseIf_inputs _ _ _).air).trans (Zone.raiseIf_inputs _ _ _).air).trans
      (Zone.demandChange_inputs _ _).air
  · exact (h.trans (Zone.raiseIf_inputs _ _ _).air).trans (Zone.raiseIf_inputs _ _ _).air

/-- Taking new tallies stores them (R18). -/
theorem Zone.takeTallies_tallies (z : Zone) (t : Tallies) : (z.takeTallies t).tallies = t := by
  unfold Zone.takeTallies
  dsimp only
  split
  · rw [(Zone.demandChange_inputs _ _).tallies, (Zone.raiseIf_inputs _ _ _).tallies, (Zone.raiseIf_inputs _ _ _).tallies]
  · rw [(Zone.raiseIf_inputs _ _ _).tallies, (Zone.raiseIf_inputs _ _ _).tallies]

end Sys2Proof.Machine
end

