-- ==== Sys2Proof/Laws/Table.lean ====
section
/-! SUPPORT. The laws of a table: reading after writing, and the canonical form that every table operation keeps (log
entry 6). -/

namespace Sys2Proof.Machine

variable {α : Type}

/-! ## Reading after writing -/

@[simp] theorem Table.get_nil (d : α) (k : Nat) : Table.get d [] k = d := rfl

theorem Table.get_erase (d : α) (t : Table α) (k j : Nat) :
    Table.get d (Table.erase t k) j = if j = k then d else Table.get d t j := by
  induction t with
  | nil => simp [Table.erase, Table.get]
  | cons e t ih =>
    obtain ⟨i, a⟩ := e
    by_cases hik : i = k
    · have : Table.erase ((i, a) :: t) k = Table.erase t k := by simp [Table.erase, hik]
      rw [this, ih]
      by_cases hjk : j = k
      · simp [hjk]
      · have : i ≠ j := fun h => hjk (h ▸ hik)
        simp [Table.get, hjk, this]
    · have : Table.erase ((i, a) :: t) k = (i, a) :: Table.erase t k := by simp [Table.erase, hik]
      rw [this]
      by_cases hij : i = j
      · have : j ≠ k := fun h => hik (hij.trans h)
        simp [Table.get, hij, this]
      · simp [Table.get, hij, ih]

theorem Table.get_insert (d : α) (t : Table α) (k : Nat) (a : α) (j : Nat) (fresh : Table.get d t k = d) :
    (∀ e ∈ t, e.1 ≠ k) → Table.get d (Table.insert k a t) j = if j = k then a else Table.get d t j := by
  intro hk
  induction t with
  | nil =>
    by_cases hjk : j = k
    · simp [Table.insert, Table.get, hjk]
    · have : k ≠ j := fun h => hjk h.symm
      simp [Table.insert, Table.get, hjk, this]
  | cons e t ih =>
    obtain ⟨i, b⟩ := e
    have hik : i ≠ k := hk (i, b) (by simp)
    have hrest : ∀ e ∈ t, e.1 ≠ k := fun e he => hk e (by simp [he])
    have hfresh : Table.get d t k = d := by simpa [Table.get, hik] using fresh
    by_cases hlt : k < i
    · simp only [Table.insert, hlt, if_true]
      by_cases hjk : j = k
      · simp [Table.get, hjk]
      · have : k ≠ j := fun h => hjk h.symm
        simp [Table.get, hjk, this]
    · simp only [Table.insert, hlt, if_false]
      by_cases hij : i = j
      · have : j ≠ k := fun h => hik (hij.trans h)
        simp [Table.get, hij, this]
      · simp [Table.get, hij, ih hfresh hrest]

theorem Table.erase_fresh (t : Table α) (k : Nat) : ∀ e ∈ Table.erase t k, e.1 ≠ k := by
  intro e he
  simpa [Table.erase] using (List.mem_filter.mp he).2

/-- Reading after writing: the number written reads as what was written, every other number as before. -/
theorem Table.get_set [DecidableEq α] (d : α) (t : Table α) (k : Nat) (a : α) (j : Nat) :
    Table.get d (Table.set d t k a) j = if j = k then a else Table.get d t j := by
  unfold Table.set
  split
  · rename_i h
    rw [Table.get_erase, h]
  · rw [Table.get_insert d _ k a j (by simp [Table.get_erase]) (Table.erase_fresh t k), Table.get_erase]
    split <;> rfl

/-- A record read is the default or one of the listed records. -/
theorem Table.get_cases (d : α) (t : Table α) (k : Nat) : Table.get d t k = d ∨ (k, Table.get d t k) ∈ t := by
  induction t with
  | nil => exact .inl rfl
  | cons e t ih =>
    obtain ⟨i, a⟩ := e
    by_cases h : i = k
    · subst h; exact .inr (by simp [Table.get])
    · rcases ih with ih | ih
      · exact .inl (by simpa [Table.get, h] using ih)
      · exact .inr (by simpa [Table.get, h] using .inr ih)

/-! ## The canonical form -/

theorem Table.wf_iff [DecidableEq α] (d : α) (bound : Nat) (t : Table α) :
    Table.wf d bound t = true ↔
      t.Pairwise (fun x y => x.1 < y.1) ∧ (∀ e ∈ t, e.1 < bound) ∧ ∀ e ∈ t, e.2 ≠ d := by
  induction t with
  | nil => simp [Table.wf]
  | cons e t ih =>
    obtain ⟨k, a⟩ := e
    cases t with
    | nil => simp [Table.wf]
    | cons e' t =>
      obtain ⟨j, b⟩ := e'
      simp only [Table.wf, Bool.and_eq_true, decide_eq_true_eq, ih]
      constructor
      · rintro ⟨⟨hkj, ha⟩, hp, hb, hd⟩
        have hj : j < bound := hb (j, b) (by simp)
        refine ⟨List.pairwise_cons.mpr ⟨?_, hp⟩, ?_, ?_⟩
        · intro x hx
          rcases List.mem_cons.mp hx with rfl | hx
          · exact hkj
          · exact Nat.lt_trans hkj ((List.pairwise_cons.mp hp).1 x hx)
        · intro x hx
          rcases List.mem_cons.mp hx with rfl | hx
          · exact Nat.lt_trans hkj hj
          · exact hb x hx
        · intro x hx
          rcases List.mem_cons.mp hx with rfl | hx
          · exact ha
          · exact hd x hx
      · rintro ⟨hp, hb, hd⟩
        obtain ⟨hk, hp⟩ := List.pairwise_cons.mp hp
        exact ⟨⟨hk (j, b) (by simp), hd (k, a) (by simp)⟩, hp, fun x hx => hb x (by simp [hx]), fun x hx => hd x (by simp [hx])⟩

theorem Table.insert_mem (k : Nat) (a : α) (t : Table α) (e : Nat × α) :
    e ∈ Table.insert k a t ↔ e = (k, a) ∨ e ∈ t := by
  induction t with
  | nil => simp [Table.insert]
  | cons x t ih =>
    obtain ⟨j, b⟩ := x
    by_cases h : k < j
    · simp [Table.insert, h]
    · simp only [Table.insert, h, if_false, List.mem_cons, ih]
      constructor
      · rintro (h | h | h) <;> simp [h]
      · rintro (h | h | h) <;> simp [h]

theorem Table.insert_pairwise (k : Nat) (a : α) (t : Table α) (hp : t.Pairwise fun x y => x.1 < y.1)
    (hk : ∀ e ∈ t, e.1 ≠ k) : (Table.insert k a t).Pairwise fun x y => x.1 < y.1 := by
  induction t with
  | nil => simp [Table.insert]
  | cons x t ih =>
    obtain ⟨j, b⟩ := x
    obtain ⟨hj, hp'⟩ := List.pairwise_cons.mp hp
    by_cases h : k < j
    · simp only [Table.insert, h, if_true]
      refine List.pairwise_cons.mpr ⟨?_, hp⟩
      intro x hx
      rcases List.mem_cons.mp hx with rfl | hx
      · exact h
      · exact Nat.lt_trans h (hj x hx)
    · simp only [Table.insert, h, if_false]
      refine List.pairwise_cons.mpr ⟨?_, ih hp' fun e he => hk e (by simp [he])⟩
      intro x hx
      rcases (Table.insert_mem k a t x).mp hx with rfl | hx
      · have : j ≠ k := hk (j, b) (by simp)
        have : ¬ k < j := h
        show j < k
        omega
      · exact hj x hx

/-- Removing a record keeps the canonical form. -/
theorem Table.wf_erase [DecidableEq α] (d : α) (bound : Nat) (t : Table α) (k : Nat) (h : Table.wf d bound t = true) :
    Table.wf d bound (Table.erase t k) = true := by
  rw [Table.wf_iff] at h ⊢
  obtain ⟨hp, hb, hd⟩ := h
  exact ⟨hp.filter _, fun e he => hb e (List.mem_filter.mp he).1, fun e he => hd e (List.mem_filter.mp he).1⟩

/-- Writing a record keeps the canonical form. -/
theorem Table.wf_set [DecidableEq α] (d : α) (bound : Nat) (t : Table α) (k : Nat) (a : α)
    (h : Table.wf d bound t = true) (hk : k < bound) : Table.wf d bound (Table.set d t k a) = true := by
  unfold Table.set
  split
  · exact Table.wf_erase d bound t k h
  · rename_i ha
    have he := Table.wf_erase d bound t k h
    rw [Table.wf_iff] at he ⊢
    obtain ⟨hp, hb, hd⟩ := he
    refine ⟨Table.insert_pairwise k a _ hp (Table.erase_fresh t k), ?_, ?_⟩
    · intro e hm
      rcases (Table.insert_mem k a _ e).mp hm with rfl | hm
      · exact hk
      · exact hb e hm
    · intro e hm
      rcases (Table.insert_mem k a _ e).mp hm with rfl | hm
      · exact ha
      · exact hd e hm

/-- Changing every listed record keeps the canonical form. -/
theorem Table.wf_map [DecidableEq α] (d : α) (bound : Nat) (f : α → α) (t : Table α) (h : Table.wf d bound t = true) :
    Table.wf d bound (Table.map d f t) = true := by
  rw [Table.wf_iff] at h ⊢
  obtain ⟨hp, hb, hd⟩ := h
  refine ⟨(List.Pairwise.filter _ (List.Pairwise.map (fun e : Nat × α => (e.1, f e.2)) (fun _ _ h => h) hp)), ?_, ?_⟩
  · intro e he
    obtain ⟨x, hx, rfl⟩ := List.mem_map.mp (List.mem_filter.mp he).1
    exact hb x hx
  · intro e he
    simpa using (List.mem_filter.mp he).2

/-- A listed record of a canonical table is what its number reads as. -/
theorem Table.get_of_mem [DecidableEq α] (d : α) (bound : Nat) (t : Table α) (h : Table.wf d bound t = true) (k : Nat)
    (a : α) (hm : (k, a) ∈ t) : Table.get d t k = a := by
  rw [Table.wf_iff] at h
  obtain ⟨hp, -, -⟩ := h
  induction t with
  | nil => simp at hm
  | cons e t ih =>
    obtain ⟨j, b⟩ := e
    obtain ⟨hj, hp⟩ := List.pairwise_cons.mp hp
    rcases List.mem_cons.mp hm with hm | hm
    · injection hm with h1 h2; subst h1; subst h2; simp [Table.get]
    · have : j < k := hj (k, a) hm
      have : j ≠ k := by omega
      simp [Table.get, this, ih hm hp]

/-- Reading after changing every record of a canonical table: `f` of what was read, where `f` keeps the default. -/
theorem Table.get_map [DecidableEq α] (d : α) (bound : Nat) (f : α → α) (t : Table α) (h : Table.wf d bound t = true)
    (hf : f d = d) (k : Nat) : Table.get d (Table.map d f t) k = f (Table.get d t k) := by
  have hw := Table.wf_map d bound f t h
  rcases Table.get_cases d t k with hg | hg
  · rw [hg, hf]
    rcases Table.get_cases d (Table.map d f t) k with hm | hm
    · exact hm
    · obtain ⟨x, hx, hxe⟩ := List.mem_map.mp (List.mem_filter.mp hm).1
      injection hxe with h1 h2
      have hxk : (k, x.2) ∈ t := by rw [← h1]; exact hx
      have := Table.get_of_mem d bound t h k x.2 hxk
      rw [← h2, ← this, hg, hf]
  · by_cases hd : f (Table.get d t k) = d
    · rcases Table.get_cases d (Table.map d f t) k with hm | hm
      · rw [hm, hd]
      · obtain ⟨x, hx, hxe⟩ := List.mem_map.mp (List.mem_filter.mp hm).1
        injection hxe with h1 h2
        have hxk : (k, x.2) ∈ t := by rw [← h1]; exact hx
        rw [← h2, Table.get_of_mem d bound t h k x.2 hxk]
    · exact Table.get_of_mem d bound _ hw k _
        (List.mem_filter.mpr ⟨List.mem_map.mpr ⟨_, hg, rfl⟩, by simpa using hd⟩)

end Sys2Proof.Machine
end

