-- ==== Sys2Proof/Laws/State.lean ====
section
/-! SUPPORT. What each update of the state leaves as it was, one lemma a field, and what reading the written record gives. -/

namespace Sys2Proof.Machine

/-! ## setBay -/

@[simp] theorem State.setBay_phase (s : State) (b : Nat) (x : Bay) : (s.setBay b x).phase = s.phase := rfl
@[simp] theorem State.setBay_ticks (s : State) (b : Nat) (x : Bay) : (s.setBay b x).ticks = s.ticks := rfl
@[simp] theorem State.setBay_zones (s : State) (b : Nat) (x : Bay) : (s.setBay b x).zones = s.zones := rfl
@[simp] theorem State.setBay_zone (s : State) (b : Nat) (x : Bay) (i : Nat) : (s.setBay b x).zone i = s.zone i := rfl
@[simp] theorem State.setBay_routes (s : State) (b : Nat) (x : Bay) : (s.setBay b x).routes = s.routes := rfl
@[simp] theorem State.setBay_route (s : State) (b : Nat) (x : Bay) (i j : Nat) : (s.setBay b x).route i j = s.route i j := rfl
@[simp] theorem State.setBay_site (s : State) (b : Nat) (x : Bay) : (s.setBay b x).site = s.site := rfl
@[simp] theorem State.setBay_sitePending (s : State) (b : Nat) (x : Bay) : (s.setBay b x).sitePending = s.sitePending := rfl
@[simp] theorem State.setBay_edit (s : State) (b : Nat) (x : Bay) : (s.setBay b x).edit = s.edit := rfl
@[simp] theorem State.setBay_lines (s : State) (b : Nat) (x : Bay) : (s.setBay b x).lines = s.lines := rfl
@[simp] theorem State.setBay_line (s : State) (b : Nat) (x : Bay) (i : Nat) : (s.setBay b x).line i = s.line i := rfl
@[simp] theorem State.setBay_nodes (s : State) (b : Nat) (x : Bay) : (s.setBay b x).nodes = s.nodes := rfl
@[simp] theorem State.setBay_node (s : State) (b : Nat) (x : Bay) (i : NodeId) : (s.setBay b x).node i = s.node i := rfl
@[simp] theorem State.setBay_signs (s : State) (b : Nat) (x : Bay) : (s.setBay b x).signs = s.signs := rfl
@[simp] theorem State.setBay_sign (s : State) (b : Nat) (x : Bay) (i : Nat) : (s.setBay b x).sign i = s.sign i := rfl
@[simp] theorem State.setBay_buffer (s : State) (b : Nat) (x : Bay) : (s.setBay b x).buffer = s.buffer := rfl
@[simp] theorem State.setBay_out (s : State) (b : Nat) (x : Bay) : (s.setBay b x).out = s.out := rfl
@[simp] theorem State.setBay_miso (s : State) (b : Nat) (x : Bay) : (s.setBay b x).miso = s.miso := rfl
@[simp] theorem State.setBay_ignoring (s : State) (b : Nat) (x : Bay) : (s.setBay b x).ignoring = s.ignoring := rfl
@[simp] theorem State.setBay_choices (s : State) (b : Nat) (x : Bay) : (s.setBay b x).choices = s.choices := rfl
@[simp] theorem State.setBay_pending (s : State) (b : Nat) (x : Bay) : (s.setBay b x).pending = s.pending := rfl

/-! ## setZone -/

@[simp] theorem State.setZone_phase (s : State) (z : Nat) (x : Zone) : (s.setZone z x).phase = s.phase := rfl
@[simp] theorem State.setZone_ticks (s : State) (z : Nat) (x : Zone) : (s.setZone z x).ticks = s.ticks := rfl
@[simp] theorem State.setZone_bays (s : State) (z : Nat) (x : Zone) : (s.setZone z x).bays = s.bays := rfl
@[simp] theorem State.setZone_bay (s : State) (z : Nat) (x : Zone) (i : Nat) : (s.setZone z x).bay i = s.bay i := rfl
@[simp] theorem State.setZone_routes (s : State) (z : Nat) (x : Zone) : (s.setZone z x).routes = s.routes := rfl
@[simp] theorem State.setZone_route (s : State) (z : Nat) (x : Zone) (i j : Nat) : (s.setZone z x).route i j = s.route i j := rfl
@[simp] theorem State.setZone_site (s : State) (z : Nat) (x : Zone) : (s.setZone z x).site = s.site := rfl
@[simp] theorem State.setZone_sitePending (s : State) (z : Nat) (x : Zone) : (s.setZone z x).sitePending = s.sitePending := rfl
@[simp] theorem State.setZone_edit (s : State) (z : Nat) (x : Zone) : (s.setZone z x).edit = s.edit := rfl
@[simp] theorem State.setZone_lines (s : State) (z : Nat) (x : Zone) : (s.setZone z x).lines = s.lines := rfl
@[simp] theorem State.setZone_line (s : State) (z : Nat) (x : Zone) (i : Nat) : (s.setZone z x).line i = s.line i := rfl
@[simp] theorem State.setZone_nodes (s : State) (z : Nat) (x : Zone) : (s.setZone z x).nodes = s.nodes := rfl
@[simp] theorem State.setZone_node (s : State) (z : Nat) (x : Zone) (i : NodeId) : (s.setZone z x).node i = s.node i := rfl
@[simp] theorem State.setZone_signs (s : State) (z : Nat) (x : Zone) : (s.setZone z x).signs = s.signs := rfl
@[simp] theorem State.setZone_sign (s : State) (z : Nat) (x : Zone) (i : Nat) : (s.setZone z x).sign i = s.sign i := rfl
@[simp] theorem State.setZone_buffer (s : State) (z : Nat) (x : Zone) : (s.setZone z x).buffer = s.buffer := rfl
@[simp] theorem State.setZone_out (s : State) (z : Nat) (x : Zone) : (s.setZone z x).out = s.out := rfl
@[simp] theorem State.setZone_miso (s : State) (z : Nat) (x : Zone) : (s.setZone z x).miso = s.miso := rfl
@[simp] theorem State.setZone_ignoring (s : State) (z : Nat) (x : Zone) : (s.setZone z x).ignoring = s.ignoring := rfl
@[simp] theorem State.setZone_choices (s : State) (z : Nat) (x : Zone) : (s.setZone z x).choices = s.choices := rfl
@[simp] theorem State.setZone_pending (s : State) (z : Nat) (x : Zone) : (s.setZone z x).pending = s.pending := rfl

/-! ## setRoute -/

@[simp] theorem State.setRoute_phase (s : State) (e z c : Nat) : (s.setRoute e z c).phase = s.phase := rfl
@[simp] theorem State.setRoute_ticks (s : State) (e z c : Nat) : (s.setRoute e z c).ticks = s.ticks := rfl
@[simp] theorem State.setRoute_bays (s : State) (e z c : Nat) : (s.setRoute e z c).bays = s.bays := rfl
@[simp] theorem State.setRoute_bay (s : State) (e z c : Nat) (i : Nat) : (s.setRoute e z c).bay i = s.bay i := rfl
@[simp] theorem State.setRoute_zones (s : State) (e z c : Nat) : (s.setRoute e z c).zones = s.zones := rfl
@[simp] theorem State.setRoute_zone (s : State) (e z c : Nat) (i : Nat) : (s.setRoute e z c).zone i = s.zone i := rfl
@[simp] theorem State.setRoute_site (s : State) (e z c : Nat) : (s.setRoute e z c).site = s.site := rfl
@[simp] theorem State.setRoute_sitePending (s : State) (e z c : Nat) : (s.setRoute e z c).sitePending = s.sitePending := rfl
@[simp] theorem State.setRoute_edit (s : State) (e z c : Nat) : (s.setRoute e z c).edit = s.edit := rfl
@[simp] theorem State.setRoute_lines (s : State) (e z c : Nat) : (s.setRoute e z c).lines = s.lines := rfl
@[simp] theorem State.setRoute_line (s : State) (e z c : Nat) (i : Nat) : (s.setRoute e z c).line i = s.line i := rfl
@[simp] theorem State.setRoute_nodes (s : State) (e z c : Nat) : (s.setRoute e z c).nodes = s.nodes := rfl
@[simp] theorem State.setRoute_node (s : State) (e z c : Nat) (i : NodeId) : (s.setRoute e z c).node i = s.node i := rfl
@[simp] theorem State.setRoute_signs (s : State) (e z c : Nat) : (s.setRoute e z c).signs = s.signs := rfl
@[simp] theorem State.setRoute_sign (s : State) (e z c : Nat) (i : Nat) : (s.setRoute e z c).sign i = s.sign i := rfl
@[simp] theorem State.setRoute_buffer (s : State) (e z c : Nat) : (s.setRoute e z c).buffer = s.buffer := rfl
@[simp] theorem State.setRoute_out (s : State) (e z c : Nat) : (s.setRoute e z c).out = s.out := rfl
@[simp] theorem State.setRoute_miso (s : State) (e z c : Nat) : (s.setRoute e z c).miso = s.miso := rfl
@[simp] theorem State.setRoute_ignoring (s : State) (e z c : Nat) : (s.setRoute e z c).ignoring = s.ignoring := rfl
@[simp] theorem State.setRoute_choices (s : State) (e z c : Nat) : (s.setRoute e z c).choices = s.choices := rfl
@[simp] theorem State.setRoute_pending (s : State) (e z c : Nat) : (s.setRoute e z c).pending = s.pending := rfl

/-! ## setLine -/

@[simp] theorem State.setLine_phase (s : State) (l : Nat) (x : Line) : (s.setLine l x).phase = s.phase := rfl
@[simp] theorem State.setLine_ticks (s : State) (l : Nat) (x : Line) : (s.setLine l x).ticks = s.ticks := rfl
@[simp] theorem State.setLine_bays (s : State) (l : Nat) (x : Line) : (s.setLine l x).bays = s.bays := rfl
@[simp] theorem State.setLine_bay (s : State) (l : Nat) (x : Line) (i : Nat) : (s.setLine l x).bay i = s.bay i := rfl
@[simp] theorem State.setLine_zones (s : State) (l : Nat) (x : Line) : (s.setLine l x).zones = s.zones := rfl
@[simp] theorem State.setLine_zone (s : State) (l : Nat) (x : Line) (i : Nat) : (s.setLine l x).zone i = s.zone i := rfl
@[simp] theorem State.setLine_routes (s : State) (l : Nat) (x : Line) : (s.setLine l x).routes = s.routes := rfl
@[simp] theorem State.setLine_route (s : State) (l : Nat) (x : Line) (i j : Nat) : (s.setLine l x).route i j = s.route i j := rfl
@[simp] theorem State.setLine_site (s : State) (l : Nat) (x : Line) : (s.setLine l x).site = s.site := rfl
@[simp] theorem State.setLine_sitePending (s : State) (l : Nat) (x : Line) : (s.setLine l x).sitePending = s.sitePending := rfl
@[simp] theorem State.setLine_edit (s : State) (l : Nat) (x : Line) : (s.setLine l x).edit = s.edit := rfl
@[simp] theorem State.setLine_nodes (s : State) (l : Nat) (x : Line) : (s.setLine l x).nodes = s.nodes := rfl
@[simp] theorem State.setLine_node (s : State) (l : Nat) (x : Line) (i : NodeId) : (s.setLine l x).node i = s.node i := rfl
@[simp] theorem State.setLine_signs (s : State) (l : Nat) (x : Line) : (s.setLine l x).signs = s.signs := rfl
@[simp] theorem State.setLine_sign (s : State) (l : Nat) (x : Line) (i : Nat) : (s.setLine l x).sign i = s.sign i := rfl
@[simp] theorem State.setLine_buffer (s : State) (l : Nat) (x : Line) : (s.setLine l x).buffer = s.buffer := rfl
@[simp] theorem State.setLine_out (s : State) (l : Nat) (x : Line) : (s.setLine l x).out = s.out := rfl
@[simp] theorem State.setLine_miso (s : State) (l : Nat) (x : Line) : (s.setLine l x).miso = s.miso := rfl
@[simp] theorem State.setLine_ignoring (s : State) (l : Nat) (x : Line) : (s.setLine l x).ignoring = s.ignoring := rfl
@[simp] theorem State.setLine_choices (s : State) (l : Nat) (x : Line) : (s.setLine l x).choices = s.choices := rfl
@[simp] theorem State.setLine_pending (s : State) (l : Nat) (x : Line) : (s.setLine l x).pending = s.pending := rfl

/-! ## setNode -/

@[simp] theorem State.setNode_phase (s : State) (id : NodeId) (x : Node) : (s.setNode id x).phase = s.phase := rfl
@[simp] theorem State.setNode_ticks (s : State) (id : NodeId) (x : Node) : (s.setNode id x).ticks = s.ticks := rfl
@[simp] theorem State.setNode_bays (s : State) (id : NodeId) (x : Node) : (s.setNode id x).bays = s.bays := rfl
@[simp] theorem State.setNode_bay (s : State) (id : NodeId) (x : Node) (i : Nat) : (s.setNode id x).bay i = s.bay i := rfl
@[simp] theorem State.setNode_zones (s : State) (id : NodeId) (x : Node) : (s.setNode id x).zones = s.zones := rfl
@[simp] theorem State.setNode_zone (s : State) (id : NodeId) (x : Node) (i : Nat) : (s.setNode id x).zone i = s.zone i := rfl
@[simp] theorem State.setNode_routes (s : State) (id : NodeId) (x : Node) : (s.setNode id x).routes = s.routes := rfl
@[simp] theorem State.setNode_route (s : State) (id : NodeId) (x : Node) (i j : Nat) : (s.setNode id x).route i j = s.route i j := rfl
@[simp] theorem State.setNode_site (s : State) (id : NodeId) (x : Node) : (s.setNode id x).site = s.site := rfl
@[simp] theorem State.setNode_sitePending (s : State) (id : NodeId) (x : Node) : (s.setNode id x).sitePending = s.sitePending := rfl
@[simp] theorem State.setNode_edit (s : State) (id : NodeId) (x : Node) : (s.setNode id x).edit = s.edit := rfl
@[simp] theorem State.setNode_lines (s : State) (id : NodeId) (x : Node) : (s.setNode id x).lines = s.lines := rfl
@[simp] theorem State.setNode_line (s : State) (id : NodeId) (x : Node) (i : Nat) : (s.setNode id x).line i = s.line i := rfl
@[simp] theorem State.setNode_signs (s : State) (id : NodeId) (x : Node) : (s.setNode id x).signs = s.signs := rfl
@[simp] theorem State.setNode_sign (s : State) (id : NodeId) (x : Node) (i : Nat) : (s.setNode id x).sign i = s.sign i := rfl
@[simp] theorem State.setNode_buffer (s : State) (id : NodeId) (x : Node) : (s.setNode id x).buffer = s.buffer := rfl
@[simp] theorem State.setNode_out (s : State) (id : NodeId) (x : Node) : (s.setNode id x).out = s.out := rfl
@[simp] theorem State.setNode_miso (s : State) (id : NodeId) (x : Node) : (s.setNode id x).miso = s.miso := rfl
@[simp] theorem State.setNode_ignoring (s : State) (id : NodeId) (x : Node) : (s.setNode id x).ignoring = s.ignoring := rfl
@[simp] theorem State.setNode_choices (s : State) (id : NodeId) (x : Node) : (s.setNode id x).choices = s.choices := rfl
@[simp] theorem State.setNode_pending (s : State) (id : NodeId) (x : Node) : (s.setNode id x).pending = s.pending := rfl

/-! ## setSign -/

@[simp] theorem State.setSign_phase (s : State) (k : Nat) (x : Sign) : (s.setSign k x).phase = s.phase := rfl
@[simp] theorem State.setSign_ticks (s : State) (k : Nat) (x : Sign) : (s.setSign k x).ticks = s.ticks := rfl
@[simp] theorem State.setSign_bays (s : State) (k : Nat) (x : Sign) : (s.setSign k x).bays = s.bays := rfl
@[simp] theorem State.setSign_bay (s : State) (k : Nat) (x : Sign) (i : Nat) : (s.setSign k x).bay i = s.bay i := rfl
@[simp] theorem State.setSign_zones (s : State) (k : Nat) (x : Sign) : (s.setSign k x).zones = s.zones := rfl
@[simp] theorem State.setSign_zone (s : State) (k : Nat) (x : Sign) (i : Nat) : (s.setSign k x).zone i = s.zone i := rfl
@[simp] theorem State.setSign_routes (s : State) (k : Nat) (x : Sign) : (s.setSign k x).routes = s.routes := rfl
@[simp] theorem State.setSign_route (s : State) (k : Nat) (x : Sign) (i j : Nat) : (s.setSign k x).route i j = s.route i j := rfl
@[simp] theorem State.setSign_site (s : State) (k : Nat) (x : Sign) : (s.setSign k x).site = s.site := rfl
@[simp] theorem State.setSign_sitePending (s : State) (k : Nat) (x : Sign) : (s.setSign k x).sitePending = s.sitePending := rfl
@[simp] theorem State.setSign_edit (s : State) (k : Nat) (x : Sign) : (s.setSign k x).edit = s.edit := rfl
@[simp] theorem State.setSign_lines (s : State) (k : Nat) (x : Sign) : (s.setSign k x).lines = s.lines := rfl
@[simp] theorem State.setSign_line (s : State) (k : Nat) (x : Sign) (i : Nat) : (s.setSign k x).line i = s.line i := rfl
@[simp] theorem State.setSign_nodes (s : State) (k : Nat) (x : Sign) : (s.setSign k x).nodes = s.nodes := rfl
@[simp] theorem State.setSign_node (s : State) (k : Nat) (x : Sign) (i : NodeId) : (s.setSign k x).node i = s.node i := rfl
@[simp] theorem State.setSign_buffer (s : State) (k : Nat) (x : Sign) : (s.setSign k x).buffer = s.buffer := rfl
@[simp] theorem State.setSign_out (s : State) (k : Nat) (x : Sign) : (s.setSign k x).out = s.out := rfl
@[simp] theorem State.setSign_miso (s : State) (k : Nat) (x : Sign) : (s.setSign k x).miso = s.miso := rfl
@[simp] theorem State.setSign_ignoring (s : State) (k : Nat) (x : Sign) : (s.setSign k x).ignoring = s.ignoring := rfl
@[simp] theorem State.setSign_choices (s : State) (k : Nat) (x : Sign) : (s.setSign k x).choices = s.choices := rfl
@[simp] theorem State.setSign_pending (s : State) (k : Nat) (x : Sign) : (s.setSign k x).pending = s.pending := rfl

/-! ## raiseSite -/

@[simp] theorem State.raiseSite_phase (s : State) (k : EventKind) : (s.raiseSite k).phase = s.phase := rfl
@[simp] theorem State.raiseSite_ticks (s : State) (k : EventKind) : (s.raiseSite k).ticks = s.ticks := rfl
@[simp] theorem State.raiseSite_bays (s : State) (k : EventKind) : (s.raiseSite k).bays = s.bays := rfl
@[simp] theorem State.raiseSite_bay (s : State) (k : EventKind) (i : Nat) : (s.raiseSite k).bay i = s.bay i := rfl
@[simp] theorem State.raiseSite_zones (s : State) (k : EventKind) : (s.raiseSite k).zones = s.zones := rfl
@[simp] theorem State.raiseSite_zone (s : State) (k : EventKind) (i : Nat) : (s.raiseSite k).zone i = s.zone i := rfl
@[simp] theorem State.raiseSite_routes (s : State) (k : EventKind) : (s.raiseSite k).routes = s.routes := rfl
@[simp] theorem State.raiseSite_route (s : State) (k : EventKind) (i j : Nat) : (s.raiseSite k).route i j = s.route i j := rfl
@[simp] theorem State.raiseSite_site (s : State) (k : EventKind) : (s.raiseSite k).site = s.site := rfl
@[simp] theorem State.raiseSite_edit (s : State) (k : EventKind) : (s.raiseSite k).edit = s.edit := rfl
@[simp] theorem State.raiseSite_lines (s : State) (k : EventKind) : (s.raiseSite k).lines = s.lines := rfl
@[simp] theorem State.raiseSite_line (s : State) (k : EventKind) (i : Nat) : (s.raiseSite k).line i = s.line i := rfl
@[simp] theorem State.raiseSite_nodes (s : State) (k : EventKind) : (s.raiseSite k).nodes = s.nodes := rfl
@[simp] theorem State.raiseSite_node (s : State) (k : EventKind) (i : NodeId) : (s.raiseSite k).node i = s.node i := rfl
@[simp] theorem State.raiseSite_signs (s : State) (k : EventKind) : (s.raiseSite k).signs = s.signs := rfl
@[simp] theorem State.raiseSite_sign (s : State) (k : EventKind) (i : Nat) : (s.raiseSite k).sign i = s.sign i := rfl
@[simp] theorem State.raiseSite_buffer (s : State) (k : EventKind) : (s.raiseSite k).buffer = s.buffer := rfl
@[simp] theorem State.raiseSite_out (s : State) (k : EventKind) : (s.raiseSite k).out = s.out := rfl
@[simp] theorem State.raiseSite_miso (s : State) (k : EventKind) : (s.raiseSite k).miso = s.miso := rfl
@[simp] theorem State.raiseSite_ignoring (s : State) (k : EventKind) : (s.raiseSite k).ignoring = s.ignoring := rfl
@[simp] theorem State.raiseSite_choices (s : State) (k : EventKind) : (s.raiseSite k).choices = s.choices := rfl
@[simp] theorem State.raiseSite_pending (s : State) (k : EventKind) : (s.raiseSite k).pending = s.pending := rfl

/-! ## withOutputs -/

@[simp] theorem State.withOutputs_phase (s : State) : (s.withOutputs).phase = s.phase := rfl
@[simp] theorem State.withOutputs_ticks (s : State) : (s.withOutputs).ticks = s.ticks := rfl
@[simp] theorem State.withOutputs_bays (s : State) : (s.withOutputs).bays = s.bays := rfl
@[simp] theorem State.withOutputs_bay (s : State) (i : Nat) : (s.withOutputs).bay i = s.bay i := rfl
@[simp] theorem State.withOutputs_zones (s : State) : (s.withOutputs).zones = s.zones := rfl
@[simp] theorem State.withOutputs_zone (s : State) (i : Nat) : (s.withOutputs).zone i = s.zone i := rfl
@[simp] theorem State.withOutputs_routes (s : State) : (s.withOutputs).routes = s.routes := rfl
@[simp] theorem State.withOutputs_route (s : State) (i j : Nat) : (s.withOutputs).route i j = s.route i j := rfl
@[simp] theorem State.withOutputs_site (s : State) : (s.withOutputs).site = s.site := rfl
@[simp] theorem State.withOutputs_sitePending (s : State) : (s.withOutputs).sitePending = s.sitePending := rfl
@[simp] theorem State.withOutputs_edit (s : State) : (s.withOutputs).edit = s.edit := rfl
@[simp] theorem State.withOutputs_lines (s : State) : (s.withOutputs).lines = s.lines := rfl
@[simp] theorem State.withOutputs_line (s : State) (i : Nat) : (s.withOutputs).line i = s.line i := rfl
@[simp] theorem State.withOutputs_nodes (s : State) : (s.withOutputs).nodes = s.nodes := rfl
@[simp] theorem State.withOutputs_node (s : State) (i : NodeId) : (s.withOutputs).node i = s.node i := rfl
@[simp] theorem State.withOutputs_signs (s : State) : (s.withOutputs).signs = s.signs := rfl
@[simp] theorem State.withOutputs_sign (s : State) (i : Nat) : (s.withOutputs).sign i = s.sign i := rfl
@[simp] theorem State.withOutputs_buffer (s : State) : (s.withOutputs).buffer = s.buffer := rfl
@[simp] theorem State.withOutputs_miso (s : State) : (s.withOutputs).miso = s.miso := rfl
@[simp] theorem State.withOutputs_ignoring (s : State) : (s.withOutputs).ignoring = s.ignoring := rfl
@[simp] theorem State.withOutputs_choices (s : State) : (s.withOutputs).choices = s.choices := rfl
@[simp] theorem State.withOutputs_pending (s : State) : (s.withOutputs).pending = s.pending := rfl

/-! ## answered -/

@[simp] theorem State.answered_phase (s : State) (n c : Nat) (r : Reason) (p : List Byte) : (s.answered n c r p).phase = s.phase := rfl
@[simp] theorem State.answered_ticks (s : State) (n c : Nat) (r : Reason) (p : List Byte) : (s.answered n c r p).ticks = s.ticks := rfl
@[simp] theorem State.answered_bays (s : State) (n c : Nat) (r : Reason) (p : List Byte) : (s.answered n c r p).bays = s.bays := rfl
@[simp] theorem State.answered_bay (s : State) (n c : Nat) (r : Reason) (p : List Byte) (i : Nat) : (s.answered n c r p).bay i = s.bay i := rfl
@[simp] theorem State.answered_zones (s : State) (n c : Nat) (r : Reason) (p : List Byte) : (s.answered n c r p).zones = s.zones := rfl
@[simp] theorem State.answered_zone (s : State) (n c : Nat) (r : Reason) (p : List Byte) (i : Nat) : (s.answered n c r p).zone i = s.zone i := rfl
@[simp] theorem State.answered_routes (s : State) (n c : Nat) (r : Reason) (p : List Byte) : (s.answered n c r p).routes = s.routes := rfl
@[simp] theorem State.answered_route (s : State) (n c : Nat) (r : Reason) (p : List Byte) (i j : Nat) : (s.answered n c r p).route i j = s.route i j := rfl
@[simp] theorem State.answered_site (s : State) (n c : Nat) (r : Reason) (p : List Byte) : (s.answered n c r p).site = s.site := rfl
@[simp] theorem State.answered_sitePending (s : State) (n c : Nat) (r : Reason) (p : List Byte) : (s.answered n c r p).sitePending = s.sitePending := rfl
@[simp] theorem State.answered_edit (s : State) (n c : Nat) (r : Reason) (p : List Byte) : (s.answered n c r p).edit = s.edit := rfl
@[simp] theorem State.answered_lines (s : State) (n c : Nat) (r : Reason) (p : List Byte) : (s.answered n c r p).lines = s.lines := rfl
@[simp] theorem State.answered_line (s : State) (n c : Nat) (r : Reason) (p : List Byte) (i : Nat) : (s.answered n c r p).line i = s.line i := rfl
@[simp] theorem State.answered_nodes (s : State) (n c : Nat) (r : Reason) (p : List Byte) : (s.answered n c r p).nodes = s.nodes := rfl
@[simp] theorem State.answered_node (s : State) (n c : Nat) (r : Reason) (p : List Byte) (i : NodeId) : (s.answered n c r p).node i = s.node i := rfl
@[simp] theorem State.answered_signs (s : State) (n c : Nat) (r : Reason) (p : List Byte) : (s.answered n c r p).signs = s.signs := rfl
@[simp] theorem State.answered_sign (s : State) (n c : Nat) (r : Reason) (p : List Byte) (i : Nat) : (s.answered n c r p).sign i = s.sign i := rfl
@[simp] theorem State.answered_ignoring (s : State) (n c : Nat) (r : Reason) (p : List Byte) : (s.answered n c r p).ignoring = s.ignoring := rfl
@[simp] theorem State.answered_choices (s : State) (n c : Nat) (r : Reason) (p : List Byte) : (s.answered n c r p).choices = s.choices := rfl
@[simp] theorem State.answered_pending (s : State) (n c : Nat) (r : Reason) (p : List Byte) : (s.answered n c r p).pending = s.pending := rfl

/-! ## overrun -/

@[simp] theorem State.overrun_phase (s : State) (n : Nat) (r : Response) : (s.overrun n r).phase = s.phase := rfl
@[simp] theorem State.overrun_ticks (s : State) (n : Nat) (r : Response) : (s.overrun n r).ticks = s.ticks := rfl
@[simp] theorem State.overrun_bays (s : State) (n : Nat) (r : Response) : (s.overrun n r).bays = s.bays := rfl
@[simp] theorem State.overrun_bay (s : State) (n : Nat) (r : Response) (i : Nat) : (s.overrun n r).bay i = s.bay i := rfl
@[simp] theorem State.overrun_zones (s : State) (n : Nat) (r : Response) : (s.overrun n r).zones = s.zones := rfl
@[simp] theorem State.overrun_zone (s : State) (n : Nat) (r : Response) (i : Nat) : (s.overrun n r).zone i = s.zone i := rfl
@[simp] theorem State.overrun_routes (s : State) (n : Nat) (r : Response) : (s.overrun n r).routes = s.routes := rfl
@[simp] theorem State.overrun_route (s : State) (n : Nat) (r : Response) (i j : Nat) : (s.overrun n r).route i j = s.route i j := rfl
@[simp] theorem State.overrun_site (s : State) (n : Nat) (r : Response) : (s.overrun n r).site = s.site := rfl
@[simp] theorem State.overrun_sitePending (s : State) (n : Nat) (r : Response) : (s.overrun n r).sitePending = s.sitePending := rfl
@[simp] theorem State.overrun_edit (s : State) (n : Nat) (r : Response) : (s.overrun n r).edit = s.edit := rfl
@[simp] theorem State.overrun_lines (s : State) (n : Nat) (r : Response) : (s.overrun n r).lines = s.lines := rfl
@[simp] theorem State.overrun_line (s : State) (n : Nat) (r : Response) (i : Nat) : (s.overrun n r).line i = s.line i := rfl
@[simp] theorem State.overrun_nodes (s : State) (n : Nat) (r : Response) : (s.overrun n r).nodes = s.nodes := rfl
@[simp] theorem State.overrun_node (s : State) (n : Nat) (r : Response) (i : NodeId) : (s.overrun n r).node i = s.node i := rfl
@[simp] theorem State.overrun_signs (s : State) (n : Nat) (r : Response) : (s.overrun n r).signs = s.signs := rfl
@[simp] theorem State.overrun_sign (s : State) (n : Nat) (r : Response) (i : Nat) : (s.overrun n r).sign i = s.sign i := rfl
@[simp] theorem State.overrun_out (s : State) (n : Nat) (r : Response) :
    (s.overrun n r).out = { s.out with misoDriven := false } := rfl
@[simp] theorem State.overrun_ignoring (s : State) (n : Nat) (r : Response) : (s.overrun n r).ignoring = s.ignoring := rfl
@[simp] theorem State.overrun_choices (s : State) (n : Nat) (r : Response) : (s.overrun n r).choices = s.choices := rfl
@[simp] theorem State.overrun_pending (s : State) (n : Nat) (r : Response) : (s.overrun n r).pending = s.pending := rfl

/-! ## Reading what was written -/

theorem State.bay_setBay (s : State) (b : Nat) (x : Bay) (i : Nat) :
    (s.setBay b x).bay i = if i = b then x else s.bay i := Table.get_set _ _ _ _ _

theorem State.zone_setZone (s : State) (z : Nat) (x : Zone) (i : Nat) :
    (s.setZone z x).zone i = if i = z then x else s.zone i := Table.get_set _ _ _ _ _

theorem State.route_setRoute (s : State) (e z c i j : Nat) :
    (s.setRoute e z c).route i j = if 32 * i + j = 32 * e + z then c else s.route i j := Table.get_set _ _ _ _ _

theorem State.line_setLine (s : State) (l : Nat) (x : Line) (i : Nat) :
    (s.setLine l x).line i = if i = l then x else s.line i := Table.get_set _ _ _ _ _

theorem State.node_setNode (s : State) (id : NodeId) (x : Node) (i : NodeId) :
    (s.setNode id x).node i = if i.key = id.key then x else s.node i := Table.get_set _ _ _ _ _

theorem State.sign_setSign (s : State) (k : Nat) (x : Sign) (i : Nat) :
    (s.setSign k x).sign i = if i = k then x else s.sign i := Table.get_set _ _ _ _ _

@[simp] theorem State.bay_setBay_self (s : State) (b : Nat) (x : Bay) : (s.setBay b x).bay b = x := by
  simp [State.bay_setBay]

@[simp] theorem State.zone_setZone_self (s : State) (z : Nat) (x : Zone) : (s.setZone z x).zone z = x := by
  simp [State.zone_setZone]

@[simp] theorem State.line_setLine_self (s : State) (l : Nat) (x : Line) : (s.setLine l x).line l = x := by
  simp [State.line_setLine]

@[simp] theorem State.node_setNode_self (s : State) (id : NodeId) (x : Node) : (s.setNode id x).node id = x := by
  simp [State.node_setNode]

@[simp] theorem State.sign_setSign_self (s : State) (k : Nat) (x : Sign) : (s.setSign k x).sign k = x := by
  simp [State.sign_setSign]

@[simp] theorem State.answered_buffer (s : State) (n c : Nat) (r : Reason) (p : List Byte) :
    (s.answered n c r p).buffer = some ⟨c, r, p, false⟩ := rfl

@[simp] theorem State.answered_miso (s : State) (n c : Nat) (r : Reason) (p : List Byte) :
    (s.answered n c r p).miso = List.replicate n idleByte := rfl

/-! ## The tables in canonical form -/

/-- The machine after reset has every table in canonical form. -/
theorem State.reset_tablesWf : State.reset.tablesWf = true := by decide

end Sys2Proof.Machine
end

