-- ==== Sys2Proof/Laws/Ops.lean ====
section
/-! SUPPORT. For each shared operation over the whole state, one lemma that says what it leaves as it was. -/

namespace Sys2Proof.Machine

/-! ## Node and sign records -/

theorem Node.SameLink.refl (n : Node) : n.SameLink n := ⟨rfl, rfl, rfl, rfl, rfl, rfl, rfl⟩

theorem Node.SameLink.trans {a b c : Node} (h : a.SameLink b) (k : b.SameLink c) : a.SameLink c :=
  ⟨k.state.trans h.state, k.misses.trans h.misses, k.toggle.trans h.toggle, k.marker.trans h.marker, k.kind.trans h.kind,
   k.row.trans h.row, k.answer.trans h.answer⟩

theorem Sign.SameFields.refl (g : Sign) : g.SameFields g := ⟨rfl, rfl, rfl, rfl, rfl⟩

theorem Sign.SameFields.trans {a b c : Sign} (h : a.SameFields b) (k : b.SameFields c) : a.SameFields c :=
  ⟨k.node.trans h.node, k.mode.trans h.mode, k.zones.trans h.zones, k.filter.trans h.filter, k.text.trans h.text⟩

theorem nodeIdOf_key (k : Nat) : (nodeIdOf k).key = k := by
  show 64 * (k / 64) + k % 64 = k
  omega

theorem node_of_key {s : State} {i j : NodeId} (h : i.key = j.key) : s.node i = s.node j := by
  unfold State.node
  rw [h]

/-! ## The frame of a hand-over -/

/-- What the hand-overs of one change leave as they were: what `State.CensusFrame` names, and the bay records, the tallies
and the response. -/
structure State.HandOver (s t : State) : Prop where
  frame : s.CensusFrame t
  bays : t.bays = s.bays
  buffer : t.buffer = s.buffer
  miso : t.miso = s.miso
  out : t.out = s.out

theorem State.CensusFrame.refl (s : State) : s.CensusFrame s :=
  ⟨rfl, rfl, rfl, rfl, rfl, rfl, rfl, rfl, rfl, rfl, fun _ => .refl _, fun _ => .refl _, fun _ => .refl _⟩

theorem State.CensusFrame.trans {s t u : State} (h : s.CensusFrame t) (k : t.CensusFrame u) : s.CensusFrame u :=
  ⟨k.phase.trans h.phase, k.ticks.trans h.ticks, k.ignoring.trans h.ignoring, k.routes.trans h.routes,
   k.site.trans h.site, k.sitePending.trans h.sitePending, k.edit.trans h.edit, k.lines.trans h.lines,
   k.choices.trans h.choices, k.pending.trans h.pending, fun z => (h.zones z).trans (k.zones z), fun i => (h.nodes i).trans (k.nodes i),
   fun i => (h.signs i).trans (k.signs i)⟩

theorem State.HandOver.refl (s : State) : s.HandOver s := ⟨.refl s, rfl, rfl, rfl, rfl⟩

theorem State.HandOver.trans {s t u : State} (h : s.HandOver t) (k : t.HandOver u) : s.HandOver u :=
  ⟨h.frame.trans k.frame, k.bays.trans h.bays, k.buffer.trans h.buffer, k.miso.trans h.miso, k.out.trans h.out⟩

/-- A fold of operations that are each a hand-over is one. -/
theorem State.HandOver.foldl {α : Type} (f : State → α → State) (hf : ∀ (s : State) (a : α), s.HandOver (f s a)) (l : List α) (s : State) :
    s.HandOver (l.foldl f s) := by
  induction l generalizing s with
  | nil => exact .refl s
  | cons a l ih => exact (hf s a).trans (ih (f s a))

/-! ## Writing a node, a zone or a sign -/

theorem State.setNode_handOver (s : State) (id : NodeId) (x : Node) (h : (s.node id).SameLink x) :
    s.HandOver (s.setNode id x) := by
  refine ⟨⟨rfl, rfl, rfl, rfl, rfl, rfl, rfl, rfl, rfl, rfl, fun _ => .refl _, fun i => ?_, fun _ => .refl _⟩, rfl, rfl, rfl, rfl⟩
  rw [State.node_setNode]
  split
  · rename_i hk; rw [node_of_key hk]; exact h
  · exact .refl _

theorem State.setZone_handOver (s : State) (z : Nat) (x : Zone) (h : (s.zone z).SameAir x) : s.HandOver (s.setZone z x) := by
  refine ⟨⟨rfl, rfl, rfl, rfl, rfl, rfl, rfl, rfl, rfl, rfl, fun i => ?_, fun _ => .refl _, fun _ => .refl _⟩, rfl, rfl, rfl, rfl⟩
  rw [State.zone_setZone]
  split
  · rename_i hk; rw [hk]; exact h
  · exact .refl _

theorem State.setSign_handOver (s : State) (i : Nat) (x : Sign) (h : (s.sign i).SameFields x) :
    s.HandOver (s.setSign i x) := by
  refine ⟨⟨rfl, rfl, rfl, rfl, rfl, rfl, rfl, rfl, rfl, rfl, fun _ => .refl _, fun _ => .refl _, fun j => ?_⟩, rfl, rfl, rfl, rfl⟩
  rw [State.sign_setSign]
  split
  · rename_i hk; rw [hk]; exact h
  · exact .refl _

/-- Marking a node writes its output pending mark only (R67). -/
theorem State.markOutput_handOver (s : State) (id : NodeId) : s.HandOver (s.markOutput id) := by
  unfold State.markOutput
  split
  · exact .refl s
  · exact s.setNode_handOver id _ ⟨rfl, rfl, rfl, rfl, rfl, rfl, rfl⟩

@[simp] theorem State.markOutput_zones (s : State) (id : NodeId) : (s.markOutput id).zones = s.zones := by
  unfold State.markOutput
  split <;> rfl

@[simp] theorem State.markOutput_bays (s : State) (id : NodeId) : (s.markOutput id).bays = s.bays := by
  unfold State.markOutput
  split <;> rfl

@[simp] theorem State.markOutput_signs (s : State) (id : NodeId) : (s.markOutput id).signs = s.signs := by
  unfold State.markOutput
  split <;> rfl

/-- A fold that leaves a field as it was in each step leaves it as it was. -/
theorem foldl_field {α β : Type} (field : State → β) (f : State → α → State) (hf : ∀ s a, field (f s a) = field s)
    (l : List α) (s : State) : field (l.foldl f s) = field s := by
  induction l generalizing s with
  | nil => rfl
  | cons a l ih => exact (ih (f s a)).trans (hf s a)

/-- Writing a zone record writes that record, and output pending marks of its fans (R117). -/
@[simp] theorem State.putZone_zones (s : State) (z : Nat) (x : Zone) : (s.putZone z x).zones = (s.setZone z x).zones :=
  foldl_field (·.zones) State.markOutput (fun s id => s.markOutput_zones id) _ _

@[simp] theorem State.putZone_bays (s : State) (z : Nat) (x : Zone) : (s.putZone z x).bays = s.bays :=
  foldl_field (·.bays) State.markOutput (fun s id => s.markOutput_bays id) _ _

@[simp] theorem State.putZone_signs (s : State) (z : Nat) (x : Zone) : (s.putZone z x).signs = s.signs :=
  foldl_field (·.signs) State.markOutput (fun s id => s.markOutput_signs id) _ _

theorem State.zone_putZone (s : State) (z : Nat) (x : Zone) (i : Nat) :
    (s.putZone z x).zone i = if i = z then x else s.zone i := by
  unfold State.zone
  rw [State.putZone_zones]
  exact s.zone_setZone z x i

@[simp] theorem State.bay_putZone (s : State) (z : Nat) (x : Zone) (b : Nat) : (s.putZone z x).bay b = s.bay b := by
  unfold State.bay
  rw [State.putZone_bays]

/-- Writing a zone record that keeps the settings and the fume part is a hand-over. -/
theorem State.putZone_handOver (s : State) (z : Nat) (x : Zone) (h : (s.zone z).SameAir x) : s.HandOver (s.putZone z x) :=
  (s.setZone_handOver z x h).trans (.foldl State.markOutput (fun s id => s.markOutput_handOver id) _ _)

/-! ## Tallies, signs, light sets -/

/-- A zone's tallies moved: a hand-over (R18, R20, R110). -/
theorem State.retally_handOver (s : State) (z : Nat) : s.HandOver (s.retally z) :=
  s.putZone_handOver z _ (Zone.takeTallies_air _ _)

/-- A sign recomputed: its value, and its node's mark (R151, R153). -/
theorem State.recomputeSign_handOver (s : State) (i : Nat) : s.HandOver (s.recomputeSign i) := by
  unfold State.recomputeSign
  dsimp only
  split
  · exact .refl s
  · have h := s.setSign_handOver i { s.sign i with value := s.signCount (s.sign i).zones (s.sign i).filter }
      ⟨rfl, rfl, rfl, rfl, rfl⟩
    split
    · refine h.trans ?_
      unfold State.markSignNode
      split
      · exact State.markOutput_handOver _ _
      · exact .refl _
    · exact h

theorem State.signsOver_handOver (s : State) (zs : List Nat) : s.HandOver (s.signsOver zs) :=
  .foldl State.recomputeSign (fun s i => s.recomputeSign_handOver i) _ _

/-- A light set recomputed: the set, and its node's mark (R165, R166). -/
theorem State.recomputeLights_handOver (s : State) (k : Nat) : s.HandOver (s.recomputeLights k) := by
  unfold State.recomputeLights
  dsimp only
  split
  · rename_i r n lights hsv
    split
    · exact .refl s
    · refine s.setNode_handOver (nodeIdOf k) _ ⟨rfl, rfl, rfl, rfl, ?_, ?_, ?_⟩ <;> simp [hsv, Service.kind, Service.rowBinding,
        Service.answer]
  all_goals exact .refl s

theorem State.lightsOfRows_handOver (s : State) (rows : List Nat) : s.HandOver (s.lightsOfRows rows) :=
  .foldl State.recomputeLights (fun s k => s.recomputeLights_handOver k) _ _

theorem State.lightsOfZone_handOver (s : State) (z : Nat) : s.HandOver (s.lightsOfZone z) :=
  .foldl State.recomputeLights (fun s k => s.recomputeLights_handOver k) _ _

theorem State.allLights_handOver (s : State) : s.HandOver s.allLights :=
  .foldl State.recomputeLights (fun s k => s.recomputeLights_handOver k) _ _

/-! ## One change of the bay table -/

/-- The bay records after several are written. -/
def writeBays (s : State) (changes : List (Nat × Bay)) : State := changes.foldl (fun s e => s.setBay e.1 e.2) s

/-- What one change of the bay table leaves as it was (R18). -/
theorem State.censusChange_frame (s : State) (changes : List (Nat × Bay)) :
    s.CensusFrame (s.censusChange changes) ∧ (s.censusChange changes).bays = (writeBays s changes).bays
      ∧ (s.censusChange changes).buffer = s.buffer ∧ (s.censusChange changes).miso = s.miso
      ∧ (s.censusChange changes).out = s.out := by
  have hw : ∀ (l : List (Nat × Bay)) (s : State), s.CensusFrame (writeBays s l) ∧ (writeBays s l).buffer = s.buffer
      ∧ (writeBays s l).miso = s.miso ∧ (writeBays s l).out = s.out := by
    intro l
    induction l with
    | nil => intro s; exact ⟨.refl s, rfl, rfl, rfl⟩
    | cons e l ih =>
      intro s
      obtain ⟨h1, h2, h3, h4⟩ := ih (s.setBay e.1 e.2)
      have h0 : s.CensusFrame (s.setBay e.1 e.2) :=
        ⟨rfl, rfl, rfl, rfl, rfl, rfl, rfl, rfl, rfl, rfl, fun _ => .refl _, fun _ => .refl _, fun _ => .refl _⟩
      exact ⟨h0.trans h1, h2, h3, h4⟩
  obtain ⟨w1, w2, w3, w4⟩ := hw changes s
  unfold State.censusChange
  dsimp only
  have h : (writeBays s changes).HandOver
      (((distinct (changes.flatMap fun e => [(s.bay e.1).zone, e.2.zone])).foldl State.retally
        (writeBays s changes)).signsOver (distinct (changes.flatMap fun e => [(s.bay e.1).zone, e.2.zone])) |>.lightsOfRows
          (distinct (changes.map fun e => e.1 / 16))) :=
    ((State.HandOver.foldl State.retally (fun s z => s.retally_handOver z) _ _).trans (State.signsOver_handOver _ _)).trans
      (State.lightsOfRows_handOver _ _)
  exact ⟨w1.trans h.frame, h.bays, h.buffer.trans w2, h.miso.trans w3, h.out.trans w4⟩

/-- One bay changed: that bay's record is the new one, and every other bay's record stays. -/
theorem State.censusChange_one_bay (s : State) (b : Nat) (x : Bay) (i : Nat) :
    (s.censusChange [(b, x)]).bay i = if i = b then x else s.bay i := by
  unfold State.bay
  rw [(s.censusChange_frame [(b, x)]).2.1]
  exact s.bay_setBay b x i

/-! ## One change of a zone record -/

theorem State.ZoneFrame.refl (z : Nat) (s : State) : s.ZoneFrame z s :=
  ⟨rfl, rfl, rfl, rfl, rfl, rfl, rfl, rfl, rfl, rfl, rfl, fun _ _ => rfl, fun _ => .refl _, fun _ => .refl _⟩

theorem State.ZoneFrame.trans {z : Nat} {s t u : State} (h : s.ZoneFrame z t) (k : t.ZoneFrame z u) : s.ZoneFrame z u :=
  ⟨k.phase.trans h.phase, k.ticks.trans h.ticks, k.ignoring.trans h.ignoring, k.bays.trans h.bays,
   k.routes.trans h.routes, k.site.trans h.site, k.sitePending.trans h.sitePending, k.edit.trans h.edit,
   k.lines.trans h.lines, k.choices.trans h.choices, k.pending.trans h.pending, fun i hi => (k.zones i hi).trans (h.zones i hi), fun i => (h.nodes i).trans (k.nodes i),
   fun i => (h.signs i).trans (k.signs i)⟩

/-- A hand-over that writes no zone record is within every zone's frame. -/
theorem State.HandOver.zoneFrame {s t : State} (h : s.HandOver t) (hz : t.zones = s.zones) (z : Nat) : s.ZoneFrame z t :=
  ⟨h.frame.phase, h.frame.ticks, h.frame.ignoring, h.bays, h.frame.routes, h.frame.site, h.frame.sitePending,
   h.frame.edit, h.frame.lines, h.frame.choices, h.frame.pending, fun i _ => by unfold State.zone; rw [hz], h.frame.nodes, h.frame.signs⟩

theorem State.putZone_zoneFrame (s : State) (z : Nat) (x : Zone) : s.ZoneFrame z (s.putZone z x) := by
  have h1 : s.ZoneFrame z (s.setZone z x) :=
    ⟨rfl, rfl, rfl, rfl, rfl, rfl, rfl, rfl, rfl, rfl, rfl, fun i hi => by rw [State.zone_setZone, if_neg hi],
     fun _ => .refl _, fun _ => .refl _⟩
  exact h1.trans ((State.HandOver.foldl State.markOutput (fun s id => s.markOutput_handOver id) _ _).zoneFrame
    (foldl_field (·.zones) State.markOutput (fun s id => s.markOutput_zones id) _ _) z)

@[simp] theorem State.recomputeSign_zones (s : State) (i : Nat) : (s.recomputeSign i).zones = s.zones := by
  unfold State.recomputeSign
  dsimp only
  split
  · rfl
  · split
    · unfold State.markSignNode
      split
      · rw [State.markOutput_zones]; rfl
      · rfl
    · rfl

@[simp] theorem State.recomputeLights_zones (s : State) (k : Nat) : (s.recomputeLights k).zones = s.zones := by
  unfold State.recomputeLights
  dsimp only
  split
  · split <;> rfl
  all_goals rfl

@[simp] theorem State.signsOver_zones (s : State) (zs : List Nat) : (s.signsOver zs).zones = s.zones :=
  foldl_field (·.zones) State.recomputeSign (fun s i => s.recomputeSign_zones i) _ _

@[simp] theorem State.lightsOfZone_zones (s : State) (z : Nat) : (s.lightsOfZone z).zones = s.zones :=
  foldl_field (·.zones) State.recomputeLights (fun s k => s.recomputeLights_zones k) _ _

@[simp] theorem State.lightsOfRows_zones (s : State) (rows : List Nat) : (s.lightsOfRows rows).zones = s.zones :=
  foldl_field (·.zones) State.recomputeLights (fun s k => s.recomputeLights_zones k) _ _

@[simp] theorem State.allLights_zones (s : State) : s.allLights.zones = s.zones :=
  foldl_field (·.zones) State.recomputeLights (fun s k => s.recomputeLights_zones k) _ _

/-- What one change of a zone record leaves as it was (R103, R105, R32). -/
theorem State.changeZone_frame (s : State) (z : Nat) (x : Zone) : s.ZoneFrame z (s.changeZone z x) := by
  unfold State.changeZone
  dsimp only
  have h1 := s.putZone_zoneFrame z x
  have h2 : s.ZoneFrame z
      (if (s.zone z).shed = x.shed ∧ (s.zone z).inUse = x.inUse then s.putZone z x
        else ((s.putZone z x).retally z).signsOver [z]) := by
    split
    · exact h1
    · exact (h1.trans (State.putZone_zoneFrame _ _ _)).trans
        ((State.signsOver_handOver _ _).zoneFrame (State.signsOver_zones _ _) z)
  split
  · exact h2
  · exact h2.trans ((State.lightsOfZone_handOver _ _).zoneFrame (State.lightsOfZone_zones _ _) z)

/-- The zone record after a change keeps the settings and the fume part it was changed to (R32, R103). -/
theorem State.changeZone_air (s : State) (z : Nat) (x : Zone) : x.SameAir ((s.changeZone z x).zone z) := by
  have key : ∀ t : State, x.SameAir (t.zone z) → ∀ u : State, u.zones = t.zones → x.SameAir (u.zone z) := by
    intro t h u hu
    have : u.zone z = t.zone z := by unfold State.zone; rw [hu]
    rw [this]; exact h
  have h1 : x.SameAir ((s.putZone z x).zone z) := by rw [State.zone_putZone, if_pos rfl]; exact .refl x
  unfold State.changeZone
  dsimp only
  have h2 : x.SameAir
      ((if (s.zone z).shed = x.shed ∧ (s.zone z).inUse = x.inUse then s.putZone z x
        else ((s.putZone z x).retally z).signsOver [z]).zone z) := by
    split
    · exact h1
    · refine key _ ?_ _ (State.signsOver_zones _ _)
      exact h1.trans (((s.putZone z x).retally_handOver z).frame.zones z)
  split
  · exact h2
  · exact key _ h2 _ (State.lightsOfZone_zones _ _)

/-! ## The end of a visit -/

/-- Everything the end of a visit can do: nothing where none is awaited, the end alone where the record was retired, and
otherwise its effect on the node (R55, R75). -/
theorem State.concludeVisit_cases (s : State) (l : Nat) (effect : State → Visit → State) :
    ((s.line l).awaiting = none ∧ s.concludeVisit l effect = s)
      ∨ ∃ v, (s.line l).awaiting = some v
        ∧ ((v.retired = true ∧ s.concludeVisit l effect = s.endVisit l)
          ∨ (v.retired = false ∧ s.concludeVisit l effect = effect (s.endVisit l) v)) := by
  unfold State.concludeVisit
  cases ha : (s.line l).awaiting with
  | none => exact .inl ⟨rfl, rfl⟩
  | some v =>
    refine .inr ⟨v, rfl, ?_⟩
    cases hr : v.retired with
    | true => exact .inl ⟨rfl, by simp [hr]⟩
    | false => exact .inr ⟨rfl, by simp [hr]⟩

/-! ## Host transactions -/

/-- Everything that serving a transaction can do: nothing, the end of an ignored one, or the service (R185). -/
theorem State.serve_cases (s : State) (f : State → State) :
    (s.phase ≠ .running ∧ s.serve f = s)
      ∨ (s.phase = .running ∧ s.ignoring = true ∧ s.serve f = { s with ignoring := false })
      ∨ (s.phase = .running ∧ s.ignoring = false ∧ s.serve f = f s) := by
  unfold State.serve
  cases hp : s.phase with
  | held => exact .inl ⟨by decide, rfl⟩
  | startUp => exact .inl ⟨by decide, rfl⟩
  | running =>
    cases hi : s.ignoring with
    | true => exact .inr (.inl ⟨rfl, rfl, rfl⟩)
    | false => exact .inr (.inr ⟨rfl, rfl, rfl⟩)

/-- A running part that ignores nothing serves the transaction. -/
theorem State.serve_running (s : State) (hp : s.phase = .running) (hi : s.ignoring = false) (f : State → State) :
    s.serve f = f s := by
  unfold State.serve
  rw [hp, hi]
  rfl

/-- What a taken request leads to: its owner's state with the response placed (R180, R182). -/
theorem State.transaction_ready (s : State) (h : s.Ready) (n code : Nat) (owner : State → State × OwnerAnswer) :
    s.transaction n code owner = (owner s).1.answered n code (owner s).2.reason (owner s).2.payload := by
  rw [State.transaction, s.serve_running h.1 h.2.1]
  simp only [h.2.2]

/-- What a request transaction leads to while a response is held: an overrun (R182). -/
theorem State.transaction_held (s : State) (r : Response) (hp : s.phase = .running) (hi : s.ignoring = false)
    (hb : s.buffer = some r) (n code : Nat) (owner : State → State × OwnerAnswer) :
    s.transaction n code owner = s.overrun n r := by
  rw [State.transaction, s.serve_running hp hi]
  simp only [hb]

/-- Everything a transaction can do: nothing, the end of an ignored one, an overrun, or the owner's work with its response. -/
theorem State.transaction_cases (s : State) (n code : Nat) (owner : State → State × OwnerAnswer) :
    s.transaction n code owner = s ∨ s.transaction n code owner = { s with ignoring := false }
      ∨ (∃ r, s.buffer = some r ∧ s.transaction n code owner = s.overrun n r)
      ∨ (s.Ready ∧ s.transaction n code owner
          = (owner s).1.answered n code (owner s).2.reason (owner s).2.payload) := by
  unfold State.transaction
  rcases s.serve_cases _ with ⟨-, h⟩ | ⟨-, -, h⟩ | ⟨hp, hi, h⟩
  · exact .inl h
  · exact .inr (.inl h)
  · rw [h]
    cases hb : s.buffer with
    | some r => exact .inr (.inr (.inl ⟨r, rfl, rfl⟩))
    | none => exact .inr (.inr (.inr ⟨⟨hp, hi, hb⟩, rfl⟩))

/-- An event changes the state by its effect, and the pins follow; while RESET is held it changes nothing (R185). -/
theorem event_eq (s : State) (f : State → State) : event s f = .next (if s.phase = .held then s else (f s).withOutputs) := by
  unfold event
  split <;> rfl

end Sys2Proof.Machine
end

