-- ==== Sys2Proof/Laws/PerInstr.lean ====
section
/-! SUPPORT. For every command: a host request that can reach the part has parameters that fit its frame (R180, R186,
R190). -/

namespace Sys2Proof.Laws.RequestFits

/-- When the command is a host request that can reach the part, its parameters fit a request frame, its code fits a byte, and
a code of the part takes parameters of their length (R180, R190). -/
def Statement (c : Instr) : Prop :=
  c.wf = true → ∀ code params, c.request = some (code, params) →
    code < 256 ∧ params.length ≤ 64 ∧ (knownCode code = true → lengthFits code params = true)

/-- An event names no request. -/
theorem of_event (c : Instr) (h : c.request = none) : Statement c := by
  intro _ code params hr
  rw [h] at hr
  cases hr

/-- A command that names a request fits when that request does. -/
theorem of_request (c : Instr) {code : Nat} {params : List Byte} (h : c.request = some (code, params))
    (fits : c.wf = true → code < 256 ∧ params.length ≤ 64 ∧ (knownCode code = true → lengthFits code params = true)) :
    Statement c := by
  intro hw k p hr
  obtain ⟨rfl, rfl⟩ : code = k ∧ params = p := by simpa [h] using hr
  exact fits hw

/-- A request whose parameters have one length fits when that length does. -/
theorem of_fixed (c : Instr) {code : Nat} {params : List Byte} (h : c.request = some (code, params)) (hc : code < 256)
    (hl : params.length ≤ 64) (hf : lengthFits code params = true) : Statement c :=
  of_request c h fun _ => ⟨hc, hl, fun _ => hf⟩

theorem byteAt_cons_zero (b : Byte) (p : List Byte) : byteAt (b :: p) 0 = b.toNat := rfl

theorem byteAt_cons_succ (b : Byte) (p : List Byte) (i : Nat) : byteAt (b :: p) (i + 1) = byteAt p i := by
  simp [byteAt]

theorem u8_toNat (n : Nat) (h : n < 256) : (u8 n).toNat = n := by
  simp [u8, BitVec.toNat_ofNat, Nat.mod_eq_of_lt h]

theorem getBay (bay : Nat) : Statement (.getBay bay) :=
  of_fixed _ rfl (by decide) (Nat.le_of_ble_eq_true rfl) rfl

theorem getRow (row : Nat) : Statement (.getRow row) :=
  of_fixed _ rfl (by decide) (Nat.le_of_ble_eq_true rfl) rfl

theorem bayClose (bay : Nat) : Statement (.bayClose bay) :=
  of_fixed _ rfl (by decide) (Nat.le_of_ble_eq_true rfl) rfl

theorem bayOpen (bay : Nat) : Statement (.bayOpen bay) :=
  of_fixed _ rfl (by decide) (Nat.le_of_ble_eq_true rfl) rfl

theorem holdRelease (bay : Nat) : Statement (.holdRelease bay) :=
  of_fixed _ rfl (by decide) (Nat.le_of_ble_eq_true rfl) rfl

theorem zoneSetInUse (zone : Nat) (useState : Nat) (cfg : ZoneParams) : Statement (.zoneSetInUse zone useState cfg) :=
  of_fixed _ rfl (by decide) (Nat.le_of_ble_eq_true rfl) rfl

theorem zoneSetFree (zone : Nat) (cfg : ZoneParams) : Statement (.zoneSetFree zone cfg) :=
  of_fixed _ rfl (by decide) (Nat.le_of_ble_eq_true rfl) rfl

theorem zoneShed (zone : Nat) : Statement (.zoneShed zone) :=
  of_fixed _ rfl (by decide) (Nat.le_of_ble_eq_true rfl) rfl

theorem zoneUnshed (zone : Nat) : Statement (.zoneUnshed zone) :=
  of_fixed _ rfl (by decide) (Nat.le_of_ble_eq_true rfl) rfl

theorem getZone (zone : Nat) : Statement (.getZone zone) :=
  of_fixed _ rfl (by decide) (Nat.le_of_ble_eq_true rfl) rfl

theorem routeSet (entrance : Nat) (zone : Nat) (cost : Nat) : Statement (.routeSet entrance zone cost) :=
  of_fixed _ rfl (by decide) (Nat.le_of_ble_eq_true rfl) rfl

theorem getRoutes (entrance : Nat) : Statement (.getRoutes entrance) :=
  of_fixed _ rfl (by decide) (Nat.le_of_ble_eq_true rfl) rfl

theorem siteSet (site : SiteParams) : Statement (.siteSet site) :=
  of_fixed _ rfl (by decide) (Nat.le_of_ble_eq_true rfl) rfl

theorem getSite : Statement (.getSite) :=
  of_fixed _ rfl (by decide) (Nat.le_of_ble_eq_true rfl) rfl

theorem editOpen (row : Nat) (offset : Nat) : Statement (.editOpen row offset) :=
  of_fixed _ rfl (by decide) (Nat.le_of_ble_eq_true rfl) rfl

theorem editPut (zone : Nat) (cls : Nat) (closed : Nat) : Statement (.editPut zone cls closed) :=
  of_fixed _ rfl (by decide) (Nat.le_of_ble_eq_true rfl) rfl

theorem editCommit : Statement (.editCommit) :=
  of_fixed _ rfl (by decide) (Nat.le_of_ble_eq_true rfl) rfl

theorem editDrop : Statement (.editDrop) :=
  of_fixed _ rfl (by decide) (Nat.le_of_ble_eq_true rfl) rfl

theorem nodeBind (line : Nat) (address : Nat) (kind : Nat) (b1 : Nat) (b2 : Nat) :
    Statement (.nodeBind line address kind b1 b2) :=
  of_fixed _ rfl (by decide) (Nat.le_of_ble_eq_true rfl) rfl

theorem nodeRetire (line : Nat) (address : Nat) : Statement (.nodeRetire line address) :=
  of_fixed _ rfl (by decide) (Nat.le_of_ble_eq_true rfl) rfl

theorem nodeBar (line : Nat) (address : Nat) : Statement (.nodeBar line address) :=
  of_fixed _ rfl (by decide) (Nat.le_of_ble_eq_true rfl) rfl

theorem nodeUnbar (line : Nat) (address : Nat) : Statement (.nodeUnbar line address) :=
  of_fixed _ rfl (by decide) (Nat.le_of_ble_eq_true rfl) rfl

theorem zoneSlotBind (form : Nat) (zone : Nat) (line : Nat) (address : Nat) (channel : Nat) (ref : Nat) :
    Statement (.zoneSlotBind form zone line address channel ref) := by
  refine of_request _ rfl fun hw => ?_
  simp only [Instr.wf, isByte, Bool.and_eq_true, decide_eq_true_eq] at hw
  have hu := u8_toNat form (by omega)
  refine ⟨by decide, by simp [u16], fun _ => ?_⟩
  simp only [lengthFits, List.cons_append, byteAt_cons_zero, hu]
  split <;> (try split) <;> simp_all [u16]

theorem zoneSlotUnbind (form : Nat) (zone : Nat) (slot : Nat) : Statement (.zoneSlotUnbind form zone slot) := by
  refine of_request _ rfl fun hw => ?_
  simp only [Instr.wf, isByte, Bool.and_eq_true, decide_eq_true_eq] at hw
  have hu := u8_toNat form (by omega)
  refine ⟨by decide, by simp, fun _ => ?_⟩
  simp only [lengthFits, byteAt_cons_zero, hu]
  split <;> (try split) <;> simp_all

theorem zoneStageBind (form : Nat) (zone : Nat) (line : Nat) (address : Nat) :
    Statement (.zoneStageBind form zone line address) := by
  refine of_request _ rfl fun hw => ?_
  simp only [Instr.wf, isByte, Bool.and_eq_true, decide_eq_true_eq] at hw
  have hu := u8_toNat form (by omega)
  refine ⟨by decide, by simp, fun _ => ?_⟩
  simp only [lengthFits, byteAt_cons_zero, hu]
  split <;> (try split) <;> simp_all

theorem zoneStageUnbind (form : Nat) (zone : Nat) (stage : Nat) : Statement (.zoneStageUnbind form zone stage) := by
  refine of_request _ rfl fun hw => ?_
  simp only [Instr.wf, isByte, Bool.and_eq_true, decide_eq_true_eq] at hw
  have hu := u8_toNat form (by omega)
  refine ⟨by decide, by simp, fun _ => ?_⟩
  simp only [lengthFits, byteAt_cons_zero, hu]
  split <;> (try split) <;> simp_all

theorem getNode (line : Nat) (address : Nat) : Statement (.getNode line address) :=
  of_fixed _ rfl (by decide) (Nat.le_of_ble_eq_true rfl) rfl

theorem zoneFloor (zone : Nat) (floor : Nat) : Statement (.zoneFloor zone floor) :=
  of_fixed _ rfl (by decide) (Nat.le_of_ble_eq_true rfl) rfl

theorem fanReset (zone : Nat) (stage : Nat) : Statement (.fanReset zone stage) :=
  of_fixed _ rfl (by decide) (Nat.le_of_ble_eq_true rfl) rfl

theorem holdPlaceByBay (bay : Nat) (ticket : Nat) : Statement (.holdPlaceByBay bay ticket) :=
  of_fixed _ rfl (by decide) (Nat.le_of_ble_eq_true rfl) rfl

theorem holdPlaceBest (entrance : Nat) (cls : Nat) (ticket : Nat) : Statement (.holdPlaceBest entrance cls ticket) :=
  of_fixed _ rfl (by decide) (Nat.le_of_ble_eq_true rfl) rfl

theorem signSet (sign : Nat) (line : Nat) (address : Nat) (mode : Nat) (zones : ZoneSet) (filter : Nat) (text : List Byte) :
    Statement (.signSet sign line address mode zones filter text) := by
  refine of_request _ rfl fun hw => ?_
  simp only [Instr.wf, Bool.and_eq_true, decide_eq_true_eq] at hw
  have ht : text.length ≤ 54 := hw.2
  have hu := u8_toNat text.length (by omega)
  refine ⟨by decide, ?_, fun _ => ?_⟩
  · simp [zoneSetBytes]; omega
  · simp [lengthFits, zoneSetBytes, byteAt_cons_succ, byteAt_cons_zero, hu]; omega

theorem getSign (sign : Nat) : Statement (.getSign sign) :=
  of_fixed _ rfl (by decide) (Nat.le_of_ble_eq_true rfl) rfl

theorem eventsTake (set : Nat) (clear : EventSet) : Statement (.eventsTake set clear) :=
  of_fixed _ rfl (by decide) (Nat.le_of_ble_eq_true rfl) rfl

theorem eventsSummary : Statement (.eventsSummary) :=
  of_fixed _ rfl (by decide) (Nat.le_of_ble_eq_true rfl) rfl

theorem clear : Statement (.clear) :=
  of_fixed _ rfl (by decide) (Nat.le_of_ble_eq_true rfl) rfl

theorem unknownRequest (code : Nat) (params : List Byte) : Statement (.unknownRequest code params) := by
  refine of_request _ rfl fun hw => ?_
  simp only [Instr.wf, isByte, Bool.and_eq_true, decide_eq_true_eq, Bool.not_eq_true'] at hw
  exact ⟨hw.1.1, hw.2, fun h => by rw [hw.1.2] at h; cases h⟩

theorem read (clocked : Nat) : Statement (.read clocked) := of_event _ rfl

theorem resetAssert : Statement (.resetAssert) := of_event _ rfl

theorem resetRelease : Statement (.resetRelease) := of_event _ rfl

theorem startUpEnd : Statement .startUpEnd := of_event _ rfl

theorem settleTimerExpiry (bay : Nat) : Statement (.settleTimerExpiry bay) := of_event _ rfl

theorem departTimerExpiry (bay : Nat) : Statement (.departTimerExpiry bay) := of_event _ rfl

theorem holdTimerExpiry (bay : Nat) : Statement (.holdTimerExpiry bay) := of_event _ rfl

theorem windowTimerExpiry : Statement (.windowTimerExpiry) := of_event _ rfl

theorem ageTimerExpiry (zone : Nat) (slot : Nat) : Statement (.ageTimerExpiry zone slot) := of_event _ rfl

theorem proofTimerExpiry (zone : Nat) (stage : Nat) : Statement (.proofTimerExpiry zone stage) := of_event _ rfl

theorem rundownTimerExpiry (zone : Nat) (stage : Nat) : Statement (.rundownTimerExpiry zone stage) := of_event _ rfl

theorem dwellTimerExpiry (zone : Nat) : Statement (.dwellTimerExpiry zone) := of_event _ rfl

theorem aisleTimerExpiry (line : Nat) (address : Nat) : Statement (.aisleTimerExpiry line address) := of_event _ rfl

theorem probeTimerExpiry (line : Nat) : Statement (.probeTimerExpiry line) := of_event _ rfl

theorem probeWatchEnd (line : Nat) (idle : Bool) : Statement (.probeWatchEnd line idle) := of_event _ rfl

theorem visitStart (line : Nat) : Statement (.visitStart line) := of_event _ rfl

theorem validReply (line : Nat) (chars : List Char9) : Statement (.validReply line chars) := of_event _ rfl

theorem replyWindowClose (line : Nat) : Statement (.replyWindowClose line) := of_event _ rfl

theorem badReply (line : Nat) : Statement (.badReply line) := of_event _ rfl

theorem breakDetected (line : Nat) : Statement (.breakDetected line) := of_event _ rfl

theorem tick : Statement (.tick) := of_event _ rfl

theorem breakLevelChange (line : Nat) (atBreak : Bool) : Statement (.breakLevelChange line atBreak) := of_event _ rfl

theorem frameSent (line : Nat) : Statement (.frameSent line) := of_event _ rfl

theorem malformedRequest (bytes : List Byte) : Statement (.malformedRequest bytes) := of_event _ rfl

end Sys2Proof.Laws.RequestFits
end

