-- ==== Sys2Proof/Laws/Safety.lean ====
section
/-! SUPPORT. What `State.withOutputs` establishes and when it changes nothing, the response placed on a state whose pins are
exact, and the conditions on all light sets and all bays read off the records listed. -/

namespace Sys2Proof.Machine

/-! ## Output pins -/

theorem State.attnLevel_iff (s : State) :
    s.attnLevel = true ↔ (∃ z, z < 32 ∧ (s.zone z).pending ≠ 0#16) ∨ s.sitePending ≠ 0#16 := by
  simp [State.attnLevel, zoneNumbers, Config.zoneCount]

theorem State.purgeLevel_iff (s : State) :
    s.purgeLevel = true ↔ (∃ z, z < 32 ∧ (s.zone z).inUse = true ∧ (s.zone z).band = .purge)
      ∨ ∀ z, z < 32 → (s.zone z).inUse = false := by
  simp [State.purgeLevel, zoneNumbers, Config.zoneCount]

theorem State.faultLevel_iff (s : State) :
    s.faultLevel = true ↔ (∃ z, z < 32 ∧ ∃ g ∈ (s.zone z).stages, g.status = .faulted)
      ∨ ∃ l, l < 4 ∧ (s.line l).state = .fault := by
  simp [State.faultLevel, zoneNumbers, Config.zoneCount, Config.lineCount]

theorem State.rdyLevel_iff (s : State) : s.rdyLevel = true ↔ s.buffer ≠ none := by
  cases h : s.buffer <;> simp [State.rdyLevel, h]

theorem State.withOutputs_exact (s : State) : s.withOutputs.OutputsExact :=
  ⟨s.rdyLevel_iff, s.attnLevel_iff, s.purgeLevel_iff, s.faultLevel_iff, rfl⟩

theorem State.outputs_of_exact {s : State} (h : s.OutputsExact) :
    s.out = { rdy := s.rdyLevel, attn := s.attnLevel, purge := s.purgeLevel, fault := s.faultLevel,
              misoDriven := false } := by
  obtain ⟨hr, ha, hp, hf, hm⟩ := h
  have er : s.out.rdy = s.rdyLevel := Bool.eq_iff_iff.mpr (hr.trans s.rdyLevel_iff.symm)
  have ea : s.out.attn = s.attnLevel := Bool.eq_iff_iff.mpr (ha.trans s.attnLevel_iff.symm)
  have ep : s.out.purge = s.purgeLevel := Bool.eq_iff_iff.mpr (hp.trans s.purgeLevel_iff.symm)
  have ef : s.out.fault = s.faultLevel := Bool.eq_iff_iff.mpr (hf.trans s.faultLevel_iff.symm)
  rw [← er, ← ea, ← ep, ← ef, ← hm]

theorem State.withOutputs_of_exact {s : State} (h : s.OutputsExact) : s.withOutputs = s := by
  rw [State.withOutputs, ← State.outputs_of_exact h]

/-- The response placed on a state whose pins are exact and that changes in nothing else. -/
theorem State.answered_of_exact {s : State} (h : s.OutputsExact) (n code : Nat) (r : Reason) (p : List Byte) :
    s.answered n code r p = s.onlyAnswered n code r p := by
  have e := State.outputs_of_exact h
  show { s with buffer := _, miso := _, out := _ } = { s with buffer := _, miso := _, out := _ }
  rw [e]
  rfl

/-! ## Conditions on every record, from the records listed -/

theorem State.lightsExact_of_listed {s : State}
    (h : ∀ e ∈ s.nodes, ∀ r n g, e.2.service = .row r n g → g = s.lightsOf r n g.timer) : s.LightsExact := by
  intro id r n g hg
  rcases Table.get_cases Node.powerOn s.nodes id.key with h0 | h1
  · rw [State.node, h0] at hg
    cases hg
  · exact h _ h1 r n g hg

theorem State.unwatchedDark_of_dark {s : State} (h : ∀ e ∈ s.bays, e.2.census = .dark) : s.UnwatchedDark := by
  intro b _ _ _
  rcases Table.get_cases Bay.powerOn s.bays b with h0 | h1
  · rw [State.bay, h0]
    rfl
  · exact h _ h1

end Sys2Proof.Machine
end

