-- ==== Sys2Proof/Tests/Slice0.lean ====
section
/-! SUPPORT. Tests: the checks of well-formedness, frames and figures worked by hand from the spec, one step of each command on
a small state, and a witness for the hypotheses of each statement. -/

set_option maxRecDepth 8000

namespace Sys2Proof.Tests

open Sys2Proof.Machine

/-! ## WellFormed: each check refuses an ill-formed term -/

theorem test_wf_refuses_word : (Instr.getBay 65536).wf = false := by decide
theorem test_wf_refuses_byte : (Instr.getRow 256).wf = false := by decide
theorem test_wf_refuses_useState : (Instr.zoneSetInUse 0 0 defaultParams).wf = false := by decide
theorem test_wf_refuses_zoneParams : (Instr.zoneSetFree 0 { defaultParams with bandH := 256 }).wf = false := by decide
theorem test_wf_refuses_siteParams : (Instr.siteSet { defaultSite with aisleTicks := 65536 }).wf = false := by decide
theorem test_wf_refuses_bind_form : (Instr.zoneSlotBind 1 0 0 1 0 1000).wf = false := by decide
theorem test_wf_refuses_unbind_form : (Instr.zoneStageUnbind 0 0 1).wf = false := by decide
theorem test_wf_refuses_long_text : (Instr.signSet 0 0 0 0 0#32 0 (List.replicate 55 65#8)).wf = false := by decide
theorem test_wf_refuses_known_code : (Instr.unknownRequest 1 []).wf = false := by decide
theorem test_wf_refuses_long_params : (Instr.unknownRequest 99 (List.replicate 65 0#8)).wf = false := by decide
theorem test_wf_refuses_empty_read : (Instr.read 0).wf = false := by decide
theorem test_wf_refuses_bay : (Instr.settleTimerExpiry 2048).wf = false := by decide
theorem test_wf_refuses_zone : (Instr.dwellTimerExpiry 32).wf = false := by decide
theorem test_wf_refuses_place : (Instr.proofTimerExpiry 0 0).wf = false ∧ (Instr.proofTimerExpiry 0 5).wf = false := by decide
theorem test_wf_refuses_line : (Instr.visitStart 4).wf = false := by decide
theorem test_wf_refuses_address : (Instr.aisleTimerExpiry 0 0).wf = false ∧ (Instr.aisleTimerExpiry 0 64).wf = false := by decide
theorem test_wf_refuses_no_bytes : (Instr.malformedRequest []).wf = false := by decide
theorem test_wf_refuses_whole_frame : (Instr.malformedRequest [0xA5#8, 1#8, 2#8, 1#8, 0x9C#8, 0x71#8, 0xEF#8]).wf = false := by
  decide

/-- A transaction whose first byte is READ is a read, whatever follows; one of no byte is none (R179). -/
theorem test_transactionOf : transactionOf [0x3C#8, 0xA5#8, 1#8] = some (.read 3) ∧ transactionOf [] = none
    ∧ transactionOf [0xA5#8, 1#8, 2#8, 1#8, 0x9C#8, 0x71#8, 0xEF#8] = some (.getBay 412)
    ∧ (Instr.malformedRequest [0x3C#8, 1#8]).wf = false ∧ (Instr.malformedRequest [0xA5#8]).wf = true := by decide

/-! ## Frames and figures worked by hand from the spec -/

/-- The published check value of this CRC (R186 gives its polynomial and start) for the characters 1 to 9. -/
theorem test_crc16_check : crc16 [49#8, 50#8, 51#8, 52#8, 53#8, 54#8, 55#8, 56#8, 57#8] = 0x29B1#16 := by decide

/-- The published check value of the CRC-8 of R187 for the same characters. -/
theorem test_crc8_check : crc8 [49#8, 50#8, 51#8, 52#8, 53#8, 54#8, 55#8, 56#8, 57#8] = 0xF4#8 := by decide

theorem test_frame_getBay : judge [0xA5#8, 0x01#8, 0x02#8, 0x01#8, 0x9C#8, 0x71#8, 0xEF#8] = .request (.getBay 412) := by decide
theorem test_frame_zoneFloor : judge [0xA5#8, 0x19#8, 0x02#8, 0x0C#8, 0x03#8, 0xEB#8, 0x81#8] = .request (.zoneFloor 12 3) := by
  decide
theorem test_frame_damaged : judge [0xA5#8, 0x01#8, 0x02#8, 0x01#8, 0x9C#8, 0x71#8, 0xEE#8] = .frame := by decide

/-- The table of R93. -/
theorem test_normalise : normalise 73 100 = 730 ∧ normalise 135 300 = 450 ∧ normalise 100 300 = 333 ∧ normalise 0 50 = 0
    ∧ normalise 4000 150 = 4095 := by decide

/-- Section 5.10: I 730 above S 500 with k_rise 2 gives 558; a ceiling never leaves S one short (R99). -/
theorem test_smoothed : smoothed 730 500 2 3 = 558 ∧ smoothed 0 1 1 3 = 0 ∧ smoothed 500 500 1 3 = 500 := by decide

/-- Section 6.7: S 558 between lo 300 and hi 900 with L 2 and w 40 gives P 430, T 80 and D 510. -/
theorem test_demand :
    let z : Zone := { Zone.powerOn with S := 558, tallies := { Tallies.zero with leaving := 1, holds := 1 } }
    z.fumeTerm = 430 ∧ z.loadTerm = 80 ∧ z.demandOf = 510 := by decide

/-- Section 6.7: N 4, H 100, c 2: D 413 keeps 2 stages, D 510 asks for 3; with D far lower the target falls (R113). -/
theorem test_computedTarget : computedTarget 413 4 100 2 = 2 ∧ computedTarget 510 4 100 2 = 3 ∧ computedTarget 100 4 100 3 = 1
    ∧ computedTarget 1000 0 100 0 = 0 := by decide

/-- One update may cross several bands; between the thresholds the band stays (R101). -/
theorem test_bandAfter : bandAfter defaultParams 1200 .clear = .purge ∧ bandAfter defaultParams 449 .purge = .clear
    ∧ bandAfter defaultParams 450 .raised = .raised ∧ bandAfter defaultParams 499 .clear = .clear := by decide

/-! ## A small state -/

/-- A node record in a state with its mark clear. -/
def nodeIn (st : NodeState) (v : Service) : Node :=
  { service := v, state := st, misses := 0, toggle := .zero, marker := .none, outputPending := false }

/-- A zone in use with one gas slot and two fan stages, before its figures are computed. -/
def plainZone : Zone :=
  { Zone.powerOn with inUse := true, I := 100, S := 100, slots := [⟨⟨0, 2⟩, 0, 1000, 100, true, 0⟩],
                      stages := [⟨⟨0, 3⟩, .idle, none, 0, 0⟩, ⟨⟨0, 4⟩, .idle, none, 0, 0⟩] }

/-- A bay of zone 0. -/
def bayIn (x : Census) (h : Option Hold) : Bay :=
  { zone := 0, cls := .standard, closed := false, census := x, stateTimer := 0, hold := h }

/-- Four bays of row 1 in zone 0. -/
def bayState : State :=
  { State.reset with phase := .running, zones := [(0, plainZone)],
                     bays := [(16, bayIn .vacant none), (17, bayIn .arriving none), (18, bayIn .leaving none),
                              (19, bayIn .vacant (some ⟨7, 0, 0⟩))] }

/-- The zone with its tallies and figures as they follow. -/
def fullZone : Zone := ({ plainZone with tallies := bayState.tallyOf 0 } : Zone).figures

/-- A row node, a gas node, two fan nodes, a sign node and an entry node on line 0, and a SILENT sign node on line 1, which is
in FAULT. Sign 0 counts zone 0. -/
def sample : State :=
  State.withOutputs
    { bayState with
      zones := [(0, fullZone)], routes := [(0, 10)], lines := [(0, { Line.powerOn with state := .scanning }),
        (1, { Line.powerOn with state := .fault, watch := true })]
      nodes := [(1, nodeIn .live (.row 1 4 (bayState.lightsOf 1 4 none))), (2, nodeIn .live .gas), (3, nodeIn .live .fan),
        (4, nodeIn .live .fan), (5, nodeIn .live .sign), (6, nodeIn .live (.entry 0 .ready)), (65, nodeIn .silent .sign)]
      signs := [(0, { Sign.powerOn with node := some ⟨0, 5⟩, mode := .count, zones := 1#32, value := 1 })] }

theorem sample_ready : sample.Ready := ⟨rfl, rfl, rfl⟩
theorem sample_outputs : sample.OutputsExact := State.withOutputs_exact _

theorem sample_legal : sample.Legal := by constructor <;> decide

theorem sample_tallies : sample.TalliesAgree := by unfold State.TalliesAgree; decide
theorem sample_signs : sample.SignsExact := by unfold State.SignsExact; decide
theorem sample_sequencers : sample.SequencersLegal := by unfold State.SequencersLegal; decide

theorem sample_figures : ∀ z, z < 32 → (sample.zone z).FiguresExact := by unfold Zone.FiguresExact; decide

theorem sample_lights : sample.LightsExact := by
  refine State.lightsExact_of_listed fun e he r n g hg => ?_
  simp [sample, State.withOutputs, nodeIn] at he
  rcases he with rfl | rfl | rfl | rfl | rfl | rfl | rfl <;> cases hg
  decide

theorem sample_bindings : sample.BindingsSound := by constructor <;> decide

/-! ## Witnesses: what every step keeps -/

/-- The small state with a tick waiting. -/
def ticking : State := { sample with pending := [.tick] }

theorem ticking_legal : ticking.Legal := by constructor <;> decide

theorem ticking_steps : ∃ t, step ticking = .next t := ⟨_, rfl⟩

theorem test_witness_RecordsStayLegal : ticking.Legal ∧ ∃ t, step ticking = .next t := ⟨ticking_legal, ticking_steps⟩
theorem test_witness_OutputsFollowRecords : ticking.OutputsExact ∧ ∃ t, step ticking = .next t :=
  ⟨sample_outputs, ticking_steps⟩
theorem test_witness_TalliesFollowBays : ticking.Legal ∧ ticking.TalliesAgree ∧ ∃ t, step ticking = .next t :=
  ⟨ticking_legal, sample_tallies, ticking_steps⟩
/-- The small state with the closing of its only offered bay waiting: sign 0 and the light set of the row follow it. -/
def closing : State := { sample with pending := [.bayClose 16] }

theorem closing_legal : closing.Legal := by constructor <;> decide

theorem test_witness_SignsFollowCounts : (ticking.Legal ∧ ticking.SignsExact ∧ ∃ t, step ticking = .next t)
    ∧ closing.Legal ∧ ∃ t, step closing = .next t ∧ (t.sign 0).mode = .count ∧ (t.sign 0).node = some ⟨0, 5⟩
      ∧ (t.sign 0).value ≠ (closing.sign 0).value ∧ (t.node ⟨0, 5⟩).state ≠ .off :=
  ⟨⟨ticking_legal, sample_signs, ticking_steps⟩, closing_legal, _, rfl, by decide⟩

theorem test_witness_LightsFollowRecords : (ticking.Legal ∧ ticking.LightsExact ∧ ∃ t, step ticking = .next t)
    ∧ closing.Legal ∧ ∃ t, step closing = .next t
      ∧ (∃ g h, (closing.node ⟨0, 1⟩).service = .row 1 4 g ∧ (t.node ⟨0, 1⟩).service = .row 1 4 h ∧ g.bays ≠ h.bays)
      ∧ (t.node ⟨0, 5⟩).state ≠ .off ∧ t.content ⟨0, 5⟩ ≠ closing.content ⟨0, 5⟩ :=
  ⟨⟨ticking_legal, sample_lights, ticking_steps⟩, closing_legal, _, rfl, ⟨_, _, rfl, rfl, by decide⟩, by decide⟩
theorem test_witness_OneStepAtATime : ticking.Legal ∧ ticking.SequencersLegal ∧ ∃ t, step ticking = .next t :=
  ⟨ticking_legal, sample_sequencers, ticking_steps⟩
theorem test_witness_FiguresFollowInputs :
    ticking.Legal ∧ (∀ z, z < 32 → (ticking.zone z).FiguresExact) ∧ ∃ t, step ticking = .next t :=
  ⟨ticking_legal, sample_figures, ticking_steps⟩
theorem ticking_freeZones : ticking.FreeZonesBare := by
  intro z hz hu
  by_cases h0 : z = 0
  · subst h0
    exact absurd hu (by decide)
  · refine ⟨?_, ?_, ?_⟩
    · have e : ticking.zones = [(0, fullZone)] := rfl
      simp [State.zone, e, Table.get, Ne.symm h0, Zone.powerOn]
    · intro b _ hc hb
      rcases Table.get_cases Bay.powerOn ticking.bays b with h | h
      · exact hc (by rw [State.bay, h]; rfl)
      · exact h0 (hb.symm.trans ((by decide : ∀ e ∈ ticking.bays, e.2.zone = 0) _ h))
    · exact (by decide : ∀ z, z < 32 → z ≠ 0 → ∀ i, i < 32 → (ticking.sign i).zones.getLsbD z = false) z hz h0

theorem ticking_lines : ticking.LinesFollowNodes := by
  intro l hl
  refine ⟨⟨fun h a h1 h63 => ?_, fun h => ?_⟩, ?_⟩
  · exact (by decide : ∀ l, l < 4 → (ticking.line l).state = .idle → ∀ a, a < 64 → 1 ≤ a →
      (ticking.node ⟨l, a⟩).state = .off) l hl h a (by omega) h1
  · have h' : ∀ a, a < 64 → 1 ≤ a → (ticking.node ⟨l, a⟩).state = .off := fun a h64 h1 => h a h1 (by omega)
    exact (by decide : ∀ l, l < 4 → (∀ a, a < 64 → 1 ≤ a → (ticking.node ⟨l, a⟩).state = .off) →
      (ticking.line l).state = .idle) l hl h'
  · exact (by decide : ∀ l, l < 4 → ∀ v ∈ (ticking.line l).visit, v.retired = false →
      (ticking.node ⟨l, v.address⟩).state ≠ .off) l hl

/-- The small state with RESET held and a tick waiting. -/
def heldState : State := { sample.poweredOn .held with pending := [.tick] }

theorem test_witness_BindingsStaySound :
    (ticking.Legal ∧ ticking.BindingsSound ∧ ticking.FreeZonesBare ∧ ticking.LinesFollowNodes ∧ ∃ t, step ticking = .next t)
    ∧ heldState.Legal ∧ heldState.phase = .held ∧ heldState.HeldAtPowerOn ∧ ∃ t, step heldState = .next t :=
  ⟨⟨ticking_legal, (by constructor <;> decide),
      ticking_freeZones, ticking_lines, ticking_steps⟩,
    (by constructor <;> decide),
    rfl, fun _ => ⟨by decide, fun _ => rfl⟩, _, rfl⟩

/-- A bay in service that no node watches. -/
def unwatched : State :=
  { State.reset with bays := [(16, bayIn .dark none)], zones := [(0, { Zone.powerOn with inUse := true })], pending := [.tick] }

theorem test_witness_UnwatchedBaysStayDark : unwatched.Legal ∧ unwatched.UnwatchedDark ∧ ∃ t, step unwatched = .next t :=
  ⟨(by constructor <;> decide),
    State.unwatchedDark_of_dark (by decide), ⟨_, rfl⟩⟩

/-! ## Witnesses: the machine as a whole and the host link -/

theorem test_witness_StepRunsFrontCommand : State.reset.pending = [] := rfl

/-- The small state with a host transaction in progress that began before the start-up time had passed. -/
def ignoringState : State := { sample with ignoring := true }

theorem test_witness_ResetIsLegal : sample.Legal ∧ ∃ t, exec .resetAssert sample = .next t := ⟨sample_legal, _, rfl⟩

theorem test_witness_StartUpAndResetGateTheCommands : State.reset.phase ≠ .running ∧ State.reset.phase = .startUp
    ∧ ignoringState.phase = .running ∧ ignoringState.ignoring = true
    ∧ ({ State.reset with phase := .held } : State).phase = .held
    ∧ (Instr.getBay 5).request = some (1, u16 5) ∧ (∀ l b, Instr.tick ≠ .breakLevelChange l b) :=
  ⟨by decide, rfl, rfl, rfl, rfl, rfl, fun _ _ h => nomatch h⟩

theorem test_startUpEnd : ∃ t, exec .startUpEnd State.reset = .next t ∧ t.phase = .running ∧ t.buffer = none :=
  ⟨_, rfl, rfl, rfl⟩

/-- The transaction in progress when the start-up time passes is ignored, and the next one is taken (R185). -/
theorem test_ignored : ∃ t u, exec (.getBay 0) ignoringState = .next t ∧ exec (.getBay 0) t = .next u
    ∧ t.buffer = none ∧ u.buffer ≠ none := ⟨_, _, rfl, rfl, by decide⟩

theorem test_witness_RequestFramesAreTakenExactly : (Instr.getBay 412).wf = true
    ∧ (Instr.getBay 412).request = some (1, u16 412) ∧ (Instr.unknownRequest 34 []).wf = true
    ∧ judge (requestFrame 1 (u16 412)) = .request (.getBay 412)
    ∧ transactionOf (requestFrame 1 (u16 412)) = some (.getBay 412) := by decide

/-- GET_BAY of bay 2048 is refused with RANGE (R21). -/
theorem test_witness_RefusedRequestsChangeNothing : sample.Ready ∧ sample.OutputsExact
    ∧ (Instr.getBay 2048).request = some (1, u16 2048) ∧ (0xA5#8 : Byte) ≠ 0x3C#8 ∧ 2048 ≤ 2048 ∧ 128 ≤ 128 ∧ 32 ≤ 32 ∧ 8 ≤ 8
    ∧ ¬ (31 < 32 ∧ 1 ≤ 5 ∧ 5 ≤ 4) ∧ ¬ (7 < 8 ∧ 4 ≤ 3 ∧ 0 ≤ 65535) ∧ ¬ (3 < 4 ∧ 1 ≤ 64 ∧ 64 ≤ 63)
    ∧ ∃ t r, exec (.getBay 2048) sample = .next t ∧ t.buffer = some r ∧ r.reason = .range ∧ r.reason ≠ .done :=
  ⟨sample_ready, sample_outputs, rfl, by decide, by decide, by decide, by decide, by decide, by decide, by decide, by decide,
    _, _, rfl, rfl, rfl, by decide⟩

/-- A term whose first byte is READ is carried out as a read (R179). -/
theorem test_malformed_read : exec (.malformedRequest [0x3C#8, 1#8]) sample = exec (.read 2) sample := rfl

/-- The small state with an unread response to BAY_CLOSE. -/
def unread : State := State.withOutputs { sample with buffer := some ⟨3, .done, [], false⟩ }

theorem test_witness_OverrunLosesTheRequest : unread.phase = .running ∧ unread.ignoring = false
    ∧ unread.buffer = some ⟨3, .done, [], false⟩ ∧ (Instr.bayOpen 413).request = some (4, u16 413)
    ∧ (0xA5#8 : Byte) ≠ 0x3C#8 := by decide

/-- The frame of this response is six bytes, so a read of seven sends it whole and one of six does not. -/
theorem test_witness_ReadSendsTheResponse : unread.phase = .running ∧ unread.ignoring = false ∧ unread.OutputsExact
    ∧ (⟨3, .done, [], false⟩ : Response).frame.length = 6 ∧ sample.buffer = none :=
  ⟨rfl, rfl, State.withOutputs_exact _, by decide, rfl⟩

/-- The example of section 11.2: the frame read after an overrun is DONE with the mark, code 3, no payload. -/
theorem test_overrun_frame : ((⟨3, .done, [], true⟩ : Response).frame).take 4 = [0x80#8, 3#8, 0#8, 0#8] := by decide

theorem test_read_empties : ∃ t, exec (.read 7) unread = .next t ∧ t.buffer = none ∧ t.out.rdy = false :=
  ⟨_, rfl, by decide⟩

theorem test_read_short : ∃ t, exec (.read 6) unread = .next t ∧ t.buffer = unread.buffer := ⟨_, rfl, by decide⟩

theorem test_witness_GetBayAndGetRowReturnTheRecords : sample.Ready ∧ sample.OutputsExact ∧ 2047 < 2048 ∧ 127 < 128 :=
  ⟨sample_ready, sample_outputs, by decide⟩

theorem test_witness_ReadRequestsReturnTheRecords : sample.Ready ∧ sample.OutputsExact ∧ 31 < 32 ∧ 7 < 8 ∧ 3 < 4
    ∧ (sample.node ⟨3, 63⟩).service = .none ∧ (sample.node ⟨0, 1⟩).service.kind = some .row
    ∧ (sample.node ⟨0, 6⟩).service = .entry 0 .ready
    ∧ (sample.zone 0).slots[0]? = some ⟨⟨0, 2⟩, 0, 1000, 100, true, 0⟩
    ∧ (sample.zone 0).stages[1]? = some ⟨⟨0, 4⟩, .idle, none, 0, 0⟩
    ∧ (sample.node ⟨0, 2⟩).service = .gas ∧ (sample.node ⟨0, 4⟩).service = .fan
    ∧ (∀ z, z < 32 → ∀ g ∈ (sample.zone z).stages, g.node ≠ ⟨3, 63⟩) ∧ (sample.node ⟨1, 1⟩).service = .sign
    ∧ (∀ i, i < 32 → (sample.sign i).node ≠ some ⟨1, 1⟩) ∧ (sample.sign 0).node = some ⟨0, 5⟩
    ∧ (∀ j, j < 32 → (sample.sign j).node = some ⟨0, 5⟩ → j = 0) ∧ (sample.sign 31).node = none :=
  ⟨sample_ready, sample_outputs, by decide⟩

/-! ## Witnesses: the census -/

theorem test_witness_CloseOpenAndReleaseChangeTheBay : sample.Ready ∧ sample.OutputsExact ∧ (sample.bay 2047).cls = .retired
    ∧ (sample.bay 16).cls ≠ .retired ∧ (sample.bay 16).closed = false ∧ (sample.bay 16).closed ≠ true
    ∧ (sample.bay 16).hold = none ∧ (sample.bay 19).hold ≠ none :=
  ⟨sample_ready, sample_outputs, by decide⟩

theorem test_bayClose : ∃ t, exec (.bayClose 16) sample = .next t ∧ t.bay 16 = { sample.bay 16 with closed := true }
    ∧ (t.zone 0).tallies.closed = 1 ∧ (t.zone 0).tallies.offeredStandard = 0 :=
  ⟨_, rfl, by decide⟩

theorem test_witness_BayTimersMoveTheBay : sample.phase ≠ .held ∧ (sample.bay 17).stateTimer = 0
    ∧ (sample.bay 17).census = .arriving ∧ (sample.bay 18).stateTimer = 0 ∧ (sample.bay 18).census = .leaving
    ∧ (sample.bay 19).hold = some ⟨7, 0, 0⟩ := by decide

/-- Section 1.9, expiry first: HOLD_LAPSED is raised and the bay is offered again. -/
theorem test_holdTimerExpiry : ∃ t, exec (.holdTimerExpiry 19) sample = .next t ∧ (t.bay 19).hold = none
    ∧ (t.zone 0).pending = 0x100#16 ∧ (t.zone 0).tallies.offeredStandard = 2 :=
  ⟨_, rfl, by decide⟩

/-- The small state with a single bay in service, under a hold at its end, so that no bay is offered. -/
def noneOffered : State :=
  let b : State := { bayState with bays := [(19, bayIn .vacant (some ⟨7, 0, 0⟩))] }
  State.withOutputs { sample with bays := b.bays, zones := [(0, ({ plainZone with tallies := b.tallyOf 0 } : Zone).figures)],
                                  nodes := [(2, nodeIn .live .gas), (3, nodeIn .live .fan), (4, nodeIn .live .fan),
                                    (5, nodeIn .live .sign), (65, nodeIn .silent .sign)] }

theorem test_witness_FullAndOpenFollowTheOfferedSum :
    (∃ t, exec (.bayClose 16) sample = .next t
      ∧ 0 < (sample.zone (sample.bay 16).zone).tallies.offeredSum ∧ (t.zone (sample.bay 16).zone).tallies.offeredSum = 0)
    ∧ (sample.Legal ∧ sample.TalliesAgree ∧ (∀ n m, Instr.zoneShed 0 ≠ .eventsTake n m)
      ∧ ∃ t, exec (.zoneShed 0) sample = .next t ∧ (t.zone 0).tallies.offeredSum = 0)
    ∧ noneOffered.Legal ∧ noneOffered.TalliesAgree ∧ (noneOffered.zone 0).tallies.offeredSum = 0
      ∧ ∃ t, exec (.holdTimerExpiry 19) noneOffered = .next t ∧ 0 < (t.zone 0).tallies.offeredSum :=
  ⟨⟨_, rfl, by decide⟩, ⟨sample_legal, sample_tallies, (fun _ _ h => nomatch h), _, rfl, by decide⟩,
    (by constructor <;> decide),
    by unfold State.TalliesAgree; decide, by decide, _, rfl, by decide⟩

/-- FULL is raised when the last offered bay of the zone is closed (R20). -/
theorem test_full : ∃ t, exec (.bayClose 16) sample = .next t ∧ (t.zone 0).pending = 0x4#16 ∧ t.out.attn = true :=
  ⟨_, rfl, by decide⟩

theorem test_witness_SelectionChoosesTheCheapestZone : sample.Legal ∧ sample.TalliesAgree
    ∧ sample.selection 0 .standard = some 16 ∧ sample.selection 0 .charging = none :=
  ⟨sample_legal, sample_tallies, by decide⟩

theorem test_witness_HoldPlacePlacesAHostHold : sample.Ready ∧ sample.OutputsExact ∧ 16 < 2048 ∧ 65535 ≤ 65535
    ∧ (sample.bay 16).closed = false ∧ (sample.bay 16).census = .vacant ∧ (sample.bay 16).hold = none
    ∧ (sample.zone 0).inUse = true ∧ (sample.zone 0).shed = false ∧ (sample.bay 17).census ≠ .vacant
    ∧ BayClass.ofCode 0 = some .standard ∧ BayClass.ofCode 3 = some .charging
    ∧ sample.selection 0 .standard = some 16 ∧ sample.selection 0 .charging = none :=
  ⟨sample_ready, sample_outputs, by decide⟩

theorem test_holdPlaceBest : ∃ t, exec (.holdPlaceBest 0 0 9) sample = .next t ∧ (t.bay 16).hold = some ⟨9, 8, 1800⟩ :=
  ⟨_, rfl, by decide⟩

/-! ## Witnesses: zones, routes and the site record -/

theorem test_witness_ZoneSetConfiguresTheZone : sample.Ready ∧ sample.OutputsExact ∧ zoneParamsInRange defaultParams = true
    ∧ zoneParamsInRange { defaultParams with lo := 900 } = false ∧ (sample.zone 0).tallies = sample.tallyOf 0 :=
  ⟨sample_ready, sample_outputs, by decide⟩

/-- New thresholds below S raise the band and with it BAND_UP (R30, R102). -/
theorem test_zoneSet_band :
    ∃ t, exec (.zoneSetInUse 0 1 { defaultParams with raisedOn := 60, highOn := 90 }) sample = .next t
      ∧ (t.zone 0).band = .high ∧ (t.zone 0).pending.getLsbD 0 = true ∧ (t.zone 0).tallies.offeredSum = 0 :=
  ⟨_, rfl, by decide⟩

theorem test_witness_BandProcedureHasHysteresis : zoneParamsInRange defaultParams = true
    ∧ Band.rank .clear < (bandAfter defaultParams 500 .clear).rank
    ∧ (bandAfter defaultParams 449 .raised).rank < Band.rank .raised ∧ bandAfter defaultParams 450 .raised = .raised := by
  decide

/-- The small state with zone 1 in use on level 3, named by nothing but the open offer of the entry node. -/
def twoZones : State :=
  State.withOutputs { sample.setNode ⟨0, 6⟩ (nodeIn .live (.entry 0 (.offer 7 19 1))) with
    zones := [(0, fullZone), (1, { Zone.powerOn with inUse := true, cfg := { defaultParams with level := 3 } })] }

theorem test_witness_ZoneSetFreesTheZone : twoZones.Ready ∧ twoZones.OutputsExact ∧ 32 ≤ 32 ∧ twoZones.Legal
    ∧ (twoZones.zone 0).slots ≠ [] ∧ (∀ b, b < 64 → (twoZones.bay b).cls ≠ .retired → (twoZones.bay b).zone ≠ 1)
    ∧ twoZones.zoneNamed 1 = false ∧ (twoZones.zone 1).cfg.level ≠ 1 ∧ (twoZones.node ⟨0, 6⟩).state ≠ .off
    ∧ (twoZones.node ⟨0, 6⟩).service = .entry 0 (.offer 7 19 1) ∧ (twoZones.node ⟨0, 5⟩).service = .sign :=
  ⟨⟨rfl, rfl, rfl⟩, State.withOutputs_exact _, by decide,
    (by constructor <;> decide),
    by decide⟩

theorem test_zoneSetFree : ∃ t, exec (.zoneSetFree 1 defaultParams) twoZones = .next t ∧ (t.zone 1).inUse = false
    ∧ (t.node ⟨0, 6⟩).outputPending = true := ⟨_, rfl, by decide⟩

theorem test_witness_ShedRequestsSetTheFlag : sample.Ready ∧ sample.OutputsExact ∧ (sample.zone 0).inUse = true
    ∧ (sample.zone 31).inUse = false :=
  ⟨sample_ready, sample_outputs, by decide⟩

theorem test_zoneShed : ∃ t, exec (.zoneShed 0) sample = .next t ∧ (t.zone 0).hostShed = true
    ∧ (t.zone 0).tallies.offeredSum = 0 := ⟨_, rfl, by decide⟩

theorem test_witness_RouteSetAndSiteSetWriteTheSettings : sample.Ready ∧ sample.OutputsExact ∧ 7 < 8 ∧ 31 < 32
    ∧ siteParamsInRange defaultSite = true ∧ siteParamsInRange { defaultSite with settleTicks := 9 } = false :=
  ⟨sample_ready, sample_outputs, by decide⟩

/-- A light level of 16 and above is stored as 15 (R41). -/
theorem test_siteSet : ∃ t, exec (.siteSet { defaultSite with parked := 200 }) sample = .next t ∧ t.site.parked = 15 :=
  ⟨_, rfl, by decide⟩

/-! ## Witnesses: the row edit -/

/-- The small state with an open edit of row 1: bay 16 to become CHARGING, the other bays as they stand. -/
def editing : State :=
  { sample with edit := some { sample.openedEdit 1 15 with
      entries := changeAt (fun x => { x with cls := .charging }) (sample.openedEdit 1 15).entries 0 } }

/-- An edit whose second entry puts a bay in service into the FREE zone 5. -/
def badEdit : Edit :=
  { row := 1, entries := ⟨0, .standard, false⟩ :: ⟨5, .standard, false⟩ :: List.replicate 14 ⟨0, .retired, false⟩,
    cursor := 16, window := 0 }

theorem test_witness_EditOpenAndEditPutFillTheBuffer : sample.Ready ∧ sample.OutputsExact ∧ sample.edit = none
    ∧ editing.Ready ∧ editing.OutputsExact ∧ editing.edit ≠ none ∧ 127 < 128 ∧ 15 < 16
    ∧ (editing.edit.map (·.cursor)) = some 15 ∧ (editing.edit.map (·.entries.length)) = some 16 ∧ badEdit.cursor = 16
    ∧ (sample.zone 0).inUse = true ∧ (sample.zone 31).inUse = false :=
  ⟨sample_ready, sample_outputs, rfl, ⟨rfl, rfl, rfl⟩, State.withOutputs_exact _, by decide, by decide, by decide, by decide,
    by decide, rfl, by decide⟩

theorem test_editPut_end : ∃ t r, exec (.editPut 0 0 0) { sample with edit := some badEdit } = .next t ∧ t.buffer = some r
    ∧ r.reason = .range := ⟨_, _, rfl, rfl, rfl⟩

theorem test_witness_EditCommitWritesTheRow : editing.Ready ∧ editing.Legal
    ∧ (∃ e, editing.edit = some e ∧ ∀ x ∈ e.entries, x.cls = .retired ∨ (editing.zone x.zone).inUse = true)
    ∧ badEdit.entries[1]? = some ⟨5, .standard, false⟩ ∧ (sample.zone 5).inUse = false
    ∧ (∀ (j : Nat) (y : Entry), j < 1 → badEdit.entries[j]? = some y →
        y.cls = .retired ∨ (sample.zone y.zone).inUse = true) := by
  refine ⟨⟨rfl, rfl, rfl⟩, (by constructor <;> decide), ⟨_, rfl, by decide⟩, rfl, by decide, ?_⟩
  intro j y hj hy
  obtain rfl : j = 0 := by omega
  cases hy
  exact .inr (by decide)

theorem test_editCommit : ∃ t r, exec .editCommit editing = .next t ∧ (t.bay 16).cls = .charging ∧ t.buffer = some r
    ∧ r.payload = [1#8] := ⟨_, _, rfl, by decide, rfl, by decide⟩

theorem test_witness_EditIsDropped : editing.Ready ∧ editing.OutputsExact ∧ editing.edit ≠ none ∧ sample.edit = none
    ∧ badEdit.window = 0 ∧ sample.site.mask.getLsbD 15 = true :=
  ⟨⟨rfl, rfl, rfl⟩, State.withOutputs_exact _, by decide, rfl, rfl, by decide⟩

/-! ## Witnesses: bindings -/

theorem test_witness_NodeBindMakesTheNodeLive : sample.Ready ∧ sample.OutputsExact ∧ sample.Legal
    ∧ (sample.node ⟨3, 63⟩).state = .off ∧ (sample.node ⟨0, 1⟩).state ≠ .off ∧ sample.bindingTaken (.entry 7 .ready) = false
    ∧ sample.bindingTaken (.entry 0 .ready) = true ∧ (sample.line 3).state = .idle :=
  ⟨sample_ready, sample_outputs, sample_legal, by decide⟩

theorem test_nodeBind : ∃ t, exec (.nodeBind 3 63 1 127 16) sample = .next t ∧ (t.node ⟨3, 63⟩).state = .live
    ∧ (t.line 3).state = .scanning := ⟨_, rfl, by decide⟩

theorem test_witness_NodeRetireSetsTheNodeOff : sample.Ready ∧ sample.OutputsExact ∧ sample.Legal
    ∧ (sample.node ⟨0, 1⟩).state ≠ .off ∧ sample.nodeNamed ⟨0, 1⟩ = false ∧ sample.nodeNamed ⟨0, 2⟩ = true
    ∧ (sample.node ⟨1, 1⟩).state ≠ .off ∧ sample.nodeNamed ⟨1, 1⟩ = false :=
  ⟨sample_ready, sample_outputs, sample_legal, by decide⟩

/-- The last node of line 1 goes, and the line in FAULT goes IDLE (R64). -/
theorem test_nodeRetire : ∃ t, exec (.nodeRetire 1 1) sample = .next t ∧ (t.line 1).state = .idle ∧ t.out.fault = false :=
  ⟨_, rfl, by decide⟩

/-- The small state with its gas node BARRED. -/
def barred : State := State.withOutputs (sample.setNode ⟨0, 2⟩ (nodeIn .barred .gas))

theorem test_witness_NodeBarAndNodeUnbarMoveTheNode : sample.Ready ∧ sample.OutputsExact ∧ sample.Legal
    ∧ (sample.node ⟨0, 2⟩).state = .live ∧ (sample.node ⟨0, 2⟩).service = .gas ∧ (sample.node ⟨0, 3⟩).service = .fan
    ∧ barred.Ready ∧ barred.OutputsExact ∧ (barred.node ⟨0, 2⟩).state = .barred :=
  ⟨sample_ready, sample_outputs, sample_legal, by decide, by decide, by decide, ⟨rfl, rfl, rfl⟩, State.withOutputs_exact _,
    by decide⟩

theorem test_nodeBar : ∃ t, exec (.nodeBar 0 2) sample = .next t ∧ (t.zone 0).blind = true ∧ (t.zone 0).I = 0
    ∧ (t.zone 0).S = 100 := ⟨_, rfl, by decide⟩

theorem test_witness_ZoneSlotChangesTheSlotList : sample.Ready ∧ sample.OutputsExact ∧ sample.Legal
    ∧ (sample.zone 0).inUse = true ∧ (sample.node ⟨0, 2⟩).service = .gas ∧ (sample.zone 0).slots.length = 1
    ∧ (∀ y, y < 32 → ∀ g ∈ (sample.zone y).slots, ¬ (g.node = ⟨0, 2⟩ ∧ g.channel = 1))
    ∧ (∃ g ∈ (sample.zone 0).slots, g.node = ⟨0, 2⟩ ∧ g.channel = 0) ∧ (sample.zone 31).inUse = false
    ∧ (sample.node ⟨0, 3⟩).service ≠ .gas ∧ ¬ (2 = 1 ∧ 0 < 32 ∧ 1 ≤ 1 ∧ 1 ≤ 4) ∧ ¬ (1 ≤ 0 ∧ 0 ≤ 4095) :=
  ⟨sample_ready, sample_outputs, sample_legal, by decide⟩

/-- The channel is bound already: CONFLICT (R58). -/
theorem test_zoneSlotBind_conflict : ∃ t, exec (.zoneSlotBind 0 0 0 2 0 1000) sample = .next t
    ∧ t = sample.onlyAnswered 12 22 .conflict [] := ⟨_, rfl, by decide⟩

/-- A zone left without a slot is not blind, and no SIGHTED is raised (R96). -/
theorem test_zoneSlotUnbind : ∃ t, exec (.zoneSlotUnbind 1 0 1) sample = .next t ∧ (t.zone 0).slots = []
    ∧ (t.zone 0).blind = false ∧ (t.zone 0).pending = 0#16 := ⟨_, rfl, by decide⟩

/-- The small state with a stale slot behind the fresh one: without the fresh slot the zone is blind, with BLIND (R59). -/
theorem test_zoneSlotUnbind_blind : ∃ t,
    exec (.zoneSlotUnbind 1 0 1)
        { sample with zones := [(0, { fullZone with slots := fullZone.slots ++ [⟨⟨0, 2⟩, 1, 1000, 0, false, 0⟩] })] } = .next t
      ∧ (t.zone 0).blind = true ∧ (t.zone 0).pending = 0x10#16 := ⟨_, rfl, by decide⟩

/-- The small state with one stage less in zone 0. -/
def oneStage : State :=
  State.withOutputs { sample with zones := [(0, ({ fullZone with stages := fullZone.stages.take 1 } : Zone).figures)] }

theorem test_witness_ZoneStageChangesTheStageList : oneStage.Ready ∧ oneStage.OutputsExact ∧ oneStage.Legal
    ∧ (oneStage.zone 0).inUse = true ∧ (oneStage.zone 0).seq = .idle ∧ (oneStage.node ⟨0, 4⟩).service = .fan
    ∧ (oneStage.zone 0).stages.length = 1
    ∧ (∀ y, y < 32 → ∀ g ∈ (oneStage.zone y).stages, g.node ≠ ⟨0, 4⟩)
    ∧ (oneStage.zone 0).stages[0]? = some ⟨⟨0, 3⟩, .idle, none, 0, 0⟩ ∧ (oneStage.node ⟨0, 3⟩).service = .fan
    ∧ (∃ g ∈ (oneStage.zone 0).stages, g.node = ⟨0, 3⟩) ∧ (oneStage.node ⟨0, 2⟩).service ≠ .fan
    ∧ ¬ (1 = 0 ∧ 0 < 32 ∧ 0 < 4 ∧ 1 ≤ 4 ∧ 4 ≤ 63) :=
  ⟨⟨rfl, rfl, rfl⟩, State.withOutputs_exact _,
    (by constructor <;> decide),
    by decide⟩

/-- A FREE zone is refused before the node is looked at: STATE (R60). -/
theorem test_zoneStageBind_state : ∃ t, exec (.zoneStageBind 0 31 0 3) sample = .next t
    ∧ t = sample.onlyAnswered 9 23 .state [] := ⟨_, rfl, by decide⟩

/-! ## Witnesses: the field lines -/

theorem test_witness_VisitGoesToTheNextNode : sample.phase ≠ .held ∧ sample.OutputsExact ∧ sample.Legal
    ∧ (sample.line 0).state = .scanning ∧ (sample.line 0).visit = none ∧ (sample.line 0).scan = 0
    ∧ (sample.node ⟨0, 1⟩).state ≠ .off :=
  ⟨by decide, sample_outputs, sample_legal, by decide⟩

theorem test_witness_FrameCarriesTheContent : sample.Legal ∧ sample.LightsExact
    ∧ (sample.node ⟨0, 1⟩).service.kind = some .row ∧ (sample.node ⟨0, 6⟩).service.kind = some .entry :=
  ⟨sample_legal, sample_lights, by decide⟩

/-- A POLL to gas node 2 with expected toggle 0: acknowledgement 3, length 0 (R187). -/
theorem test_visitFrame : sample.visitFrame ⟨0, 2⟩ = [0x100#9, 2#9, 0x32#9, 0#9] ++ [plainChar (crc8 [2#8, 0x32#8, 0#8])] := by
  decide

/-- The small state with a visit to address `a` of line 0 sent and its reply awaited. -/
def waitingFor (a : Nat) : State :=
  State.withOutputs
    { sample with lines := [(0, { Line.powerOn with state := .scanning, scan := a, visit := some ⟨a, true, [], false⟩ }),
        (1, { Line.powerOn with state := .fault, watch := true })] }

theorem test_witness_DriverAndInputMoveTheLine : ∃ v, sample.OutputsExact
    ∧ (sample.setLine 0 { Line.powerOn with state := .scanning, visit := some v, de := true }).phase ≠ .held
    ∧ ((sample.setLine 0 { Line.powerOn with state := .scanning, visit := some v, de := true }).line 0).visit = some v
    ∧ ((sample.setLine 0 { Line.powerOn with state := .scanning, visit := some v, de := true }).line 0).de = true :=
  ⟨⟨1, false, [], false⟩, sample_outputs, by decide⟩

theorem test_witness_ReplyFramesAreRead : (1 ≤ 63 ∧ 63 ≤ 63) ∧ BayClass.charging.code ≤ 3 ∧ (0#8 : Byte) ≠ crc8 [1#8]
    ∧ startMark ∈ [startMark] ∧ (2 ≠ 1 ∨ NodeKind.row ≠ .row) ∧ (63#8).toNat ≠ 128 + 63 ∧ (10#8).toNat % 8 ≠ NodeKind.row.code
    ∧ (3#8).toNat ≠ [0#8, 0#8].length ∧ ((1#8).getLsbD 3 = false ∧ [0#8] ≠ [])
    ∧ ((9#8).getLsbD 3 = true ∧ some 3 ≠ some [0#8, 0#8].length)
    ∧ ((13#8).getLsbD 3 = true ∧ (2#8).getLsbD 1 = true ∧ ¬ (1 ≤ (5#8).toNat ∧ (5#8).toNat ≤ 4)) := by decide

theorem waitingFor_legal (a : Nat) (h : a = 2 ∨ a = 1 ∨ a = 3 ∨ a = 6) : (waitingFor a).Legal := by
  rcases h with rfl | rfl | rfl | rfl <;>
    exact by constructor <;> decide

theorem waiting_gas : (waitingFor 2).Waiting 0 ⟨2, true, [], false⟩ .gas := by constructor <;> decide
theorem waiting_row : (waitingFor 1).Waiting 0 ⟨1, true, [], false⟩ .row := by constructor <;> decide
theorem waiting_fan : (waitingFor 3).Waiting 0 ⟨3, true, [], false⟩ .fan := by constructor <;> decide
theorem waiting_entry : (waitingFor 6).Waiting 0 ⟨6, true, [], false⟩ .entry := by constructor <;> decide

/-- The characters of a gas report with toggle `t` (0 or 16): channel 0 valid with reading 2000. -/
def gasReply (t : Nat) : List Char9 := replyChars 2 (10 + t) [0x87#8, 0xD0#8, 0#8, 0#8]

/-- The waiting state with its gas node BARRED, its slot stale. -/
def waitingBarred : State :=
  State.withOutputs { (waitingFor 2).setNode ⟨0, 2⟩ (nodeIn .barred .gas) with
    zones := [(0, { fullZone with slots := [⟨⟨0, 2⟩, 0, 1000, 100, false, 0⟩], I := 0, blind := true })] }

/-- The waiting state whose visit's record has been retired and bound again since the visit began. -/
def retiredVisit : State :=
  State.withOutputs
    { sample with lines := [(0, { Line.powerOn with state := .scanning, scan := 2, visit := some ⟨2, true, [], true⟩ }),
        (1, { Line.powerOn with state := .fault, watch := true })] }

/-- Neither the reply to a visit begun before the retirement nor the lack of one reaches the new record (R55, R75). -/
theorem test_retired_visit : ∃ t u, exec (.validReply 0 (gasReply 0)) retiredVisit = .next t
    ∧ exec (.badReply 0) retiredVisit = .next u ∧ t.nodes = sample.nodes ∧ t.zones = sample.zones ∧ u.nodes = sample.nodes
    ∧ (t.line 0).visit = none := ⟨_, _, rfl, rfl, by decide⟩

theorem test_witness_UnappliedReportsChangeTheNodeOnly :
    (retiredVisit.phase ≠ .held ∧ retiredVisit.OutputsExact ∧ (retiredVisit.line 0).state = .scanning
      ∧ (retiredVisit.line 0).de = false ∧ (retiredVisit.line 0).visit = some ⟨2, true, [], true⟩) ∧
    ((waitingFor 2).Legal ∧ (waitingFor 2).OutputsExact ∧ (waitingFor 2).Waiting 0 ⟨2, true, [], false⟩ .gas
      ∧ parseReply .gas 2 (replyChars 2 2 []) = some .null
      ∧ parseReply .gas 2 (gasReply 16) = some (.report true (.gas 2000 true 0 false))
      ∧ ((waitingFor 2).node ⟨0, 2⟩).toggle = .zero)
    ∧ waitingBarred.Legal ∧ waitingBarred.OutputsExact ∧ waitingBarred.Waiting 0 ⟨2, true, [], false⟩ .gas
      ∧ parseReply .gas 2 (gasReply 0) = some (.report false (.gas 2000 true 0 false))
      ∧ (waitingBarred.node ⟨0, 2⟩).state = .barred ∧ (waitingBarred.node ⟨0, 2⟩).toggle.fresh false = true :=
  ⟨⟨by decide, State.withOutputs_exact _, by decide⟩,
    ⟨waitingFor_legal 2 (.inl rfl), State.withOutputs_exact _, waiting_gas, by decide⟩,
    (by constructor <;> decide),
    State.withOutputs_exact _, (by constructor <;> decide),
    by decide⟩

/-- NODE_RETIRE marks the visit in flight (R55). -/
theorem test_nodeRetire_visit : ∃ t, exec (.nodeRetire 0 1) (waitingFor 1) = .next t
    ∧ (t.line 0).visit = some ⟨1, true, [], true⟩ ∧ (t.bay 16).census = .dark := ⟨_, rfl, by decide⟩

/-- The waiting state with four misses counted at its gas node. -/
def fourMisses : State :=
  State.withOutputs ((waitingFor 2).setNode ⟨0, 2⟩ { nodeIn .live .gas with misses := 4 })

/-- The fifth miss makes the gas node SILENT and its zone blind, with NODE_SILENT and BLIND in the zone's set (R72, R88). -/
theorem test_fifth_miss : ∃ t, exec (.badReply 0) fourMisses = .next t ∧ (t.node ⟨0, 2⟩).state = .silent
    ∧ (t.zone 0).blind = true ∧ (t.zone 0).pending = 0x210#16 := ⟨_, rfl, by decide⟩

/-- The small state with line 0 at the break level. -/
def breaking : State :=
  State.withOutputs (sample.setLine 0 { Line.powerOn with state := .scanning, rxBreak := true, breakMeasure := 19 })

theorem test_witness_BreakTakesTheLineToFault : breaking.phase ≠ .held ∧ breaking.Legal
    ∧ (breaking.line 0).state = .scanning ∧ (breaking.line 0).rxBreak = true ∧ (breaking.line 0).de = false :=
  ⟨by decide,
    (by constructor <;> decide),
    by decide⟩

/-- The small state with the probe timer of line 1 at 0. -/
def probing : State := State.withOutputs (sample.setLine 1 { Line.powerOn with state := .fault, probe := some 0 })

theorem test_witness_ProbeReturnsTheLine : sample.phase ≠ .held ∧ sample.OutputsExact ∧ sample.Legal
    ∧ (sample.line 1).state = .fault ∧ (sample.line 1).watch = true ∧ probing.OutputsExact ∧ probing.Legal
    ∧ (probing.line 1).state = .fault ∧ (probing.line 1).probe = some 0 :=
  ⟨by decide, sample_outputs, sample_legal, by decide, by decide, State.withOutputs_exact _,
    (by constructor <;> decide),
    by decide⟩

theorem test_lineBack : ∃ t, exec (.probeWatchEnd 1 true) sample = .next t ∧ (t.line 1).state = .scanning
    ∧ t.sitePending = 0x1000#16 ∧ t.out.fault = false := ⟨_, rfl, by decide⟩

/-! ## Witnesses: fresh reports -/

/-- The waiting state with the node of its visit SILENT. -/
def silentFor (a : Nat) (v : Service) : State := State.withOutputs ((waitingFor a).setNode ⟨0, a⟩ (nodeIn .silent v))

theorem waiting_silent :
    ((silentFor 1 (.row 1 4 (bayState.lightsOf 1 4 none))).Legal
      ∧ (silentFor 1 (.row 1 4 (bayState.lightsOf 1 4 none))).Waiting 0 ⟨1, true, [], false⟩ .row)
    ∧ ((silentFor 2 .gas).Legal ∧ (silentFor 2 .gas).Waiting 0 ⟨2, true, [], false⟩ .gas)
    ∧ (silentFor 6 (.entry 0 .ready)).Legal ∧ (silentFor 6 (.entry 0 .ready)).Waiting 0 ⟨6, true, [], false⟩ .entry := by
  refine ⟨⟨?_, ?_⟩, ⟨?_, ?_⟩, ?_, ?_⟩
  all_goals constructor
  all_goals decide

/-- A SILENT gas node goes LIVE and its sample is applied in the same visit; NODE_BACK is in the zone's set (R73). -/
theorem test_silent_report : ∃ t, exec (.validReply 0 (gasReply 0)) (silentFor 2 .gas) = .next t
    ∧ (t.node ⟨0, 2⟩).state = .live ∧ (t.zone 0).S = 1050 ∧ (t.zone 0).pending.getLsbD 10 = true :=
  ⟨_, rfl, by decide⟩

/-- A row report: bay 16 present, bays 17 to 19 absent, with motion. -/
def rowReply : List Char9 := replyChars 1 9 [0#8, 1#8, 1#8]

theorem test_witness_RowReportMovesTheBays : (waitingFor 1).Legal ∧ (waitingFor 1).Waiting 0 ⟨1, true, [], false⟩ .row
    ∧ parseReply .row 1 rowReply = some (.report false (.row 1#16 true))
    ∧ ((waitingFor 1).node ⟨0, 1⟩).service = .row 1 4 (bayState.lightsOf 1 4 none)
    ∧ ((waitingFor 1).node ⟨0, 1⟩).state = .live ∧ ((waitingFor 1).node ⟨0, 1⟩).toggle.fresh false = true
    ∧ ((silentFor 1 (.row 1 4 (bayState.lightsOf 1 4 none))).node ⟨0, 1⟩).state = .silent :=
  ⟨waitingFor_legal 1 (.inr (.inl rfl)), waiting_row, by decide⟩

theorem test_rowReport : ∃ t, exec (.validReply 0 rowReply) (waitingFor 1) = .next t ∧ (t.bay 16).census = .arriving
    ∧ (t.bay 16).stateTimer = 300 ∧ (t.bay 17).census = .leaving ∧ (t.bay 18).census = .leaving :=
  ⟨_, rfl, by decide⟩

theorem test_witness_GasReportUpdatesTheZones : (waitingFor 2).Legal ∧ (waitingFor 2).Waiting 0 ⟨2, true, [], false⟩ .gas
    ∧ parseReply .gas 2 (gasReply 0) = some (.report false (.gas 2000 true 0 false))
    ∧ ((waitingFor 2).node ⟨0, 2⟩).state = .live ∧ ((waitingFor 2).node ⟨0, 2⟩).toggle.fresh false = true
    ∧ (∃ g ∈ ((waitingFor 2).zone 0).slots, g.node = ⟨0, 2⟩ ∧ g.channel = 0) ∧ ((waitingFor 2).zone 31).slots = []
    ∧ ((waitingFor 2).zone 0).FiguresExact ∧ ((silentFor 2 .gas).node ⟨0, 2⟩).state = .silent :=
  ⟨waitingFor_legal 2 (.inl rfl), waiting_gas, by decide, by decide, by decide, by decide, by decide,
    sample_figures 0 (by decide), by decide⟩

/-- Reading 2000 with ref 1000 gives n 2000; S goes half of the way from 100; 1050 is at or above high_on (R93, R99, R101). -/
theorem test_gasReport : ∃ t, exec (.validReply 0 (gasReply 0)) (waitingFor 2) = .next t ∧ (t.zone 0).I = 2000
    ∧ (t.zone 0).S = 1050 ∧ (t.zone 0).band = .high := ⟨_, rfl, by decide⟩

/-- A fan report with toggle 0: proof or trip. -/
def fanReply (b : Byte) : List Char9 := replyChars 3 11 [b]

/-- The zone with its first stage STARTING toward the target. -/
def startingZone : Zone :=
  { fullZone with stages := [⟨⟨0, 3⟩, .starting, none, 0, 0⟩, ⟨⟨0, 4⟩, .idle, none, 0, 0⟩], seq := .stepUp,
                  sequence := some ⟨.up, 0, 1, 0⟩ }

/-- The state that waits for fan node 3, with this record for zone 0. -/
def fanState (x : Zone) : State := State.withOutputs { waitingFor 3 with zones := [(0, x)] }

/-- With two stages of which the second names another node, fan node 3 is named by the first stage of zone 0 alone. -/
theorem fanState_unique (x : Zone) (a b : Stage) (hx : x.stages = [a, b]) (hb : b.node ≠ ⟨0, 3⟩) (y j : Nat) (h : Stage)
    (hh : ((fanState x).zone y).stages[j]? = some h) (hn : h.node = ⟨0, 3⟩) : y = 0 ∧ j = 0 := by
  by_cases hy : y = 0
  · subst hy
    refine ⟨rfl, ?_⟩
    have e : ((fanState x).zone 0).stages = [a, b] := hx
    rw [e] at hh
    match j, hh with
    | 0, _ => rfl
    | 1, hh => cases hh; exact absurd hn hb
  · have e : ((fanState x).zone y).stages = [] := by
      have e0 : (fanState x).zones = [(0, x)] := rfl
      simp [State.zone, e0, Table.get, Ne.symm hy, Zone.powerOn]
    simp [e] at hh

/-- The state that waits for fan node 3, with its stage STARTING and its proof timer at 0. -/
def starting : State := fanState startingZone

theorem starting_legal : starting.Legal := by constructor <;> decide

theorem starting_unique (y j : Nat) (h : Stage) (hh : (starting.zone y).stages[j]? = some h) (hn : h.node = ⟨0, 3⟩) :
    y = 0 ∧ j = 0 := fanState_unique startingZone _ _ rfl (by decide) y j h hh hn

/-- The same with four misses counted at the fan node. -/
def fourMissesFan : State := State.withOutputs (starting.setNode ⟨0, 3⟩ { nodeIn .live .fan with misses := 4 })

theorem test_witness_MissesSilenceTheNode : fourMisses.Legal ∧ fourMisses.OutputsExact
    ∧ fourMisses.Waiting 0 ⟨2, true, [], false⟩ .gas ∧ (fourMisses.node ⟨0, 2⟩).state = .live
    ∧ (fourMisses.node ⟨0, 2⟩).misses = 4 ∧ (waitingFor 2).Waiting 0 ⟨2, true, [], false⟩ .gas
    ∧ ((waitingFor 2).node ⟨0, 2⟩).misses ≠ 4 ∧ parseReply .gas 2 [] = none
    ∧ (fourMissesFan.Legal ∧ fourMissesFan.Waiting 0 ⟨3, true, [], false⟩ .fan
      ∧ (fourMissesFan.node ⟨0, 3⟩).state = .live ∧ (fourMissesFan.node ⟨0, 3⟩).misses = 4
      ∧ (fourMissesFan.zone 0).stages[0]? = some ⟨⟨0, 3⟩, .starting, none, 0, 0⟩
      ∧ ∀ (j : Nat) (h : Stage), (fourMissesFan.zone 0).stages[j]? = some h → h.node = ⟨0, 3⟩ → j = 0) :=
  ⟨(by constructor <;> decide),
    State.withOutputs_exact _, (by constructor <;> decide),
    by decide, by decide, waiting_gas, by decide, by decide,
    (by constructor <;> decide),
    (by constructor <;> decide), by decide, by decide, by decide,
    fun j h hh hn => (starting_unique 0 j h hh hn).2⟩

/-- The fifth miss of a fan node faults the stage that it starts, and a substitute starts (R119, R122). -/
theorem test_fifth_miss_fan : ∃ t, exec (.replyWindowClose 0) fourMissesFan = .next t ∧ (t.zone 0).statusAt 0 = .faulted
    ∧ (t.zone 0).statusAt 1 = .starting := ⟨_, rfl, by decide⟩


/-- The state that waits for fan node 3, its zone without a dwell after a step up. -/
def startingAtOnce : State :=
  State.withOutputs { waitingFor 3 with zones := [(0, { startingZone with cfg := { startingZone.cfg with dwellUp := 0 } })] }

theorem test_witness_FanReportReachesTheStage : starting.Legal ∧ starting.Waiting 0 ⟨3, true, [], false⟩ .fan
    ∧ parseReply .fan 3 (fanReply 1#8) = some (.report false (.fan true false))
    ∧ parseReply .fan 3 (fanReply 2#8) = some (.report false (.fan false true))
    ∧ (starting.node ⟨0, 3⟩).state = .live ∧ (starting.node ⟨0, 3⟩).toggle.fresh false = true
    ∧ (starting.zone 0).stages[0]? = some ⟨⟨0, 3⟩, .starting, none, 0, 0⟩
    ∧ (∀ (y j : Nat) (h : Stage), (starting.zone y).stages[j]? = some h → h.node = ⟨0, 3⟩ → y = 0 ∧ j = 0)
    ∧ (starting.zone 0).cfg.dwellUp ≠ 0 ∧ (starting.zone 0).band ≠ .purge
    ∧ (starting.zone 0).sequence = some ⟨.up, 0, 1, 0⟩
    ∧ (startingAtOnce.Legal ∧ startingAtOnce.Waiting 0 ⟨3, true, [], false⟩ .fan ∧ (startingAtOnce.zone 0).cfg.dwellUp = 0) :=
  ⟨starting_legal, (by constructor <;> decide), by decide, by decide,
    by decide, by decide, by decide, starting_unique, by decide, by decide, by decide,
    (by constructor <;> decide),
    (by constructor <;> decide), by decide⟩

/-- Zone 0 with its two stages and its sequencer as given. -/
def tripZone (st other : StageStatus) (seq : SeqState) (q : Option Sequence) (cfg : ZoneParams) : Zone :=
  ({ fullZone with
    stages := [⟨⟨0, 3⟩, st, none, 0, 0⟩, ⟨⟨0, 4⟩, other, if other = .faulted then some .trip else none, 0, 0⟩], seq := seq,
    sequence := q, cfg := cfg } : Zone).figures

/-- The stage of fan node 3 before each row of a TRIP: IDLE and RUNNING with and without a sequencer at rest, STOPPING with
and without a dwell, STARTING with and without a substitute and with the target met. -/
def tripZones : List Zone :=
  [tripZone .idle .idle .idle none defaultParams, tripZone .idle .starting .stepUp (some ⟨.up, 0, 1, 0⟩) defaultParams,
   tripZone .running .running .idle none defaultParams, tripZone .running .idle .dwell (some ⟨.up, 0, 1, 1⟩) defaultParams,
   tripZone .stopping .running .stepDown (some ⟨.down, 2, 1, 0⟩) defaultParams,
   tripZone .stopping .running .stepDown (some ⟨.down, 2, 1, 0⟩) { defaultParams with dwellDown := 0 },
   tripZone .starting .idle .stepUp (some ⟨.up, 0, 1, 0⟩) defaultParams,
   tripZone .starting .faulted .stepUp (some ⟨.up, 0, 1, 0⟩) defaultParams,
   tripZone .starting .idle .stepUp (some ⟨.up, 0, 1, 0⟩) { defaultParams with loadWeight := 0 }]

theorem test_witness_FanReportReachesTheStage_trip :
    (∀ x ∈ tripZones, (fanState x).Legal ∧ (fanState x).Waiting 0 ⟨3, true, [], false⟩ .fan
      ∧ ((fanState x).node ⟨0, 3⟩).state = .live ∧ ((fanState x).node ⟨0, 3⟩).toggle.fresh false = true
      ∧ ∀ (y j : Nat) (h : Stage), ((fanState x).zone y).stages[j]? = some h → h.node = ⟨0, 3⟩ → y = 0 ∧ j = 0)
    ∧ tripZones.map (fun x => (x.statusAt 0, x.statusAt 1, x.seq, decide (x.cfg.dwellDown = 0), decide (x.c < x.target)))
      = [(.idle, .idle, .idle, false, true), (.idle, .starting, .stepUp, false, true), (.running, .running, .idle, false, false),
         (.running, .idle, .dwell, false, false), (.stopping, .running, .stepDown, false, false),
         (.stopping, .running, .stepDown, true, false), (.starting, .idle, .stepUp, false, true),
         (.starting, .faulted, .stepUp, false, true), (.starting, .idle, .stepUp, false, false)] := by
  refine ⟨fun x hx => ?_, by decide⟩
  simp only [tripZones, List.mem_cons, List.not_mem_nil, or_false] at hx
  rcases hx with rfl | rfl | rfl | rfl | rfl | rfl | rfl | rfl | rfl
  all_goals
    exact ⟨by constructor <;> decide, by constructor <;> decide, by decide, by decide,
      fanState_unique _ _ _ rfl (by decide)⟩

/-- TRIP of a STOPPING stage counts the step, and the dwell begins (R118, R123). -/
theorem test_fan_trip_stopping : ∃ t,
    exec (.validReply 0 (fanReply 2#8)) (fanState (tripZone .stopping .running .stepDown (some ⟨.down, 2, 1, 0⟩) defaultParams))
        = .next t
      ∧ (t.zone 0).statusAt 0 = .faulted ∧ (t.zone 0).dwell = 600 ∧ (t.zone 0).sequence = some ⟨.down, 2, 1, 1⟩ :=
  ⟨_, rfl, by decide⟩

theorem test_fan_proof : ∃ t, exec (.validReply 0 (fanReply 1#8)) starting = .next t ∧ (t.zone 0).c = 1
    ∧ (t.zone 0).seq = .dwell ∧ (t.zone 0).dwell = 300 := ⟨_, rfl, by decide⟩

/-- TRIP of the STARTING stage: the second stage is its substitute (R122), and the tripped node is to be sent STOP. -/
theorem test_fan_trip : ∃ t, exec (.validReply 0 (fanReply 2#8)) starting = .next t ∧ (t.zone 0).statusAt 0 = .faulted
    ∧ (t.zone 0).statusAt 1 = .starting ∧ (t.node ⟨0, 3⟩).outputPending = true ∧ t.out.fault = true :=
  ⟨_, rfl, by decide⟩

/-- An entry report with toggle 0: a STANDARD request with this ticket, without or with the acknowledgement. -/
def entryReply (ack ticket : Nat) : List Char9 := replyChars 6 13 [u8 (2 + ack), 1#8, 0#8, u8 ticket]

theorem test_witness_EntryReportIsAnswered : (waitingFor 6).Legal ∧ (waitingFor 6).OutputsExact ∧ (waitingFor 6).TalliesAgree
    ∧ (waitingFor 6).Waiting 0 ⟨6, true, [], false⟩ .entry
    ∧ parseReply .entry 6 (entryReply 0 9) = some (.report false (.entry false (some (.standard, 9))))
    ∧ ((waitingFor 6).node ⟨0, 6⟩).state = .live ∧ ((waitingFor 6).node ⟨0, 6⟩).toggle.fresh false = true
    ∧ ((waitingFor 6).node ⟨0, 6⟩).service = .entry 0 .ready ∧ (waitingFor 6).selection 0 .standard = some 16
    ∧ ((silentFor 6 (.entry 0 .ready)).node ⟨0, 6⟩).state = .silent :=
  ⟨waitingFor_legal 6 (.inr (.inr (.inr rfl))), State.withOutputs_exact _, sample_tallies, waiting_entry, by decide⟩

/-- A request for a new ticket is offered the lowest offered bay, with a hold of 1800 ticks; a repeated one the bay it holds. -/
theorem test_entry_offer : ∃ t, exec (.validReply 0 (entryReply 0 9)) (waitingFor 6) = .next t
    ∧ (t.node ⟨0, 6⟩).service = .entry 0 (.offer 9 16 0) ∧ (t.bay 16).hold = some ⟨9, 0, 1800⟩ :=
  ⟨_, rfl, by decide⟩

theorem test_entry_reoffer : ∃ t, exec (.validReply 0 (entryReply 0 7)) (waitingFor 6) = .next t
    ∧ (t.node ⟨0, 6⟩).service = .entry 0 (.offer 7 19 0) ∧ t.bays = (waitingFor 6).bays := ⟨_, rfl, by decide⟩

/-! ## Witnesses: fume and ventilation -/

theorem test_witness_AgeTimerMakesTheSlotStale : sample.phase ≠ .held ∧ sample.Legal
    ∧ (sample.zone 0).slots[0]? = some ⟨⟨0, 2⟩, 0, 1000, 100, true, 0⟩ ∧ (sample.zone 0).FiguresExact :=
  ⟨by decide, sample_legal, by decide, sample_figures 0 (by decide)⟩

theorem test_ageTimer : ∃ t, exec (.ageTimerExpiry 0 1) sample = .next t ∧ (t.zone 0).blind = true
    ∧ (t.zone 0).blindFloor = 2 ∧ (t.zone 0).pending = 0x10#16 := ⟨_, rfl, by decide⟩

theorem test_witness_ZoneFloorSetsTheFloor : sample.Ready ∧ sample.OutputsExact ∧ 4 ≤ 4 ∧ (sample.zone 0).inUse = true
    ∧ (sample.zone 31).inUse = false ∧ (sample.zone 0).seq = .idle ∧ (starting.zone 0).seq ≠ .idle :=
  ⟨sample_ready, sample_outputs, by decide⟩

/-- Raised above c, the target starts the first stage (R115, R120). -/
theorem test_zoneFloor : ∃ t, exec (.zoneFloor 0 4) sample = .next t ∧ (t.zone 0).hostFloor = 4 ∧ (t.zone 0).target = 2
    ∧ (t.zone 0).statusAt 0 = .starting := ⟨_, rfl, by decide⟩

/-- The small state with the first stage of zone 0 FAULTED and the sequencer IDLE, held short. -/
def faulted : State :=
  State.withOutputs { sample with zones := [(0, { fullZone with
    stages := [⟨⟨0, 3⟩, .faulted, some .noProof, 0, 0⟩, ⟨⟨0, 4⟩, .idle, none, 0, 0⟩], shortHold := true })] }

theorem test_witness_FanResetReturnsTheStage : faulted.Ready ∧ faulted.OutputsExact ∧ (faulted.zone 0).inUse = true
    ∧ (faulted.zone 0).stages[0]? = some ⟨⟨0, 3⟩, .faulted, some .noProof, 0, 0⟩ ∧ (faulted.zone 0).seq = .idle
    ∧ (faulted.zone 0).sequence = none ∧ (faulted.zone 0).c < (faulted.zone 0).target
    ∧ (faulted.zone 0).stages.length ≤ 3 :=
  ⟨⟨rfl, rfl, rfl⟩, State.withOutputs_exact _, by decide⟩

/-- The reset stage is the lowest-numbered IDLE stage and is started at once (R126). -/
theorem test_fanReset : ∃ t, exec (.fanReset 0 1) faulted = .next t ∧ (t.zone 0).statusAt 0 = .starting
    ∧ (t.zone 0).shortHold = false ∧ t.out.fault = true := ⟨_, rfl, by decide⟩

/-- The same with the target fallen to c while the stage started. -/
def startingMet : State :=
  State.withOutputs { sample with zones := [(0, ({ startingZone with
    tallies := Tallies.zero, cfg := { startingZone.cfg with demandH := 0 } } : Zone).figures)] }

theorem test_witness_ProofTimerFaultsTheStage : starting.phase ≠ .held ∧ starting.Legal
    ∧ (starting.zone 0).stages[0]? = some ⟨⟨0, 3⟩, .starting, none, 0, 0⟩
    ∧ (starting.zone 0).stages[1]? = some ⟨⟨0, 4⟩, .idle, none, 0, 0⟩
    ∧ (starting.zone 0).c < (starting.zone 0).target ∧ (starting.zone 0).sequence = some ⟨.up, 0, 1, 0⟩
    ∧ startingMet.Legal ∧ (startingMet.zone 0).stages[0]? = some ⟨⟨0, 3⟩, .starting, none, 0, 0⟩
    ∧ (startingMet.zone 0).target ≤ (startingMet.zone 0).c :=
  ⟨by decide, starting_legal, by decide, by decide, by decide, by decide,
    (by constructor <;> decide),
    by decide⟩

/-- With the target met by the time the start fails, the sequence ends DONE at once, with no dwell (R122). -/
theorem test_proofTimer_met : ∃ t, exec (.proofTimerExpiry 0 1) startingMet = .next t ∧ (t.zone 0).seq = .idle
    ∧ (t.zone 0).last = ⟨0, 1, 0, .done⟩ := ⟨_, rfl, by decide⟩

/-- The small state with a STOPPING stage whose rundown is over, the other RUNNING. -/
def stopping : State :=
  State.withOutputs { sample with zones := [(0, ({ fullZone with
    stages := [⟨⟨0, 3⟩, .running, none, 0, 0⟩, ⟨⟨0, 4⟩, .stopping, none, 0, 0⟩], seq := .stepDown,
    sequence := some ⟨.down, 2, 1, 0⟩ } : Zone).figures)] }

/-- The small state in a dwell that is over, its target met. -/
def dwelling : State :=
  State.withOutputs { sample with zones := [(0, ({ fullZone with
    stages := [⟨⟨0, 3⟩, .running, none, 0, 0⟩, ⟨⟨0, 4⟩, .idle, none, 0, 0⟩], seq := .dwell,
    sequence := some ⟨.up, 0, 1, 1⟩ } : Zone).figures)] }

/-- The same with a host floor of 2, so that one stage is still missing. -/
def dwellingShort : State :=
  State.withOutputs { sample with zones := [(0, ({ fullZone with
    stages := [⟨⟨0, 3⟩, .running, none, 0, 0⟩, ⟨⟨0, 4⟩, .idle, none, 0, 0⟩], seq := .dwell, hostFloor := 2,
    sequence := some ⟨.up, 0, 1, 1⟩ } : Zone).figures)] }

/-- Two stages RUNNING in a dwell that is over, the target fallen to one. -/
def dwellingOver : State :=
  State.withOutputs { sample with zones := [(0, ({ fullZone with
    stages := [⟨⟨0, 3⟩, .running, none, 0, 0⟩, ⟨⟨0, 4⟩, .running, none, 0, 0⟩], seq := .dwell,
    sequence := some ⟨.up, 0, 2, 2⟩ } : Zone).figures)] }

/-- Settings under which the small state's S of 100 is in the band PURGE. -/
def purgeParams : ZoneParams := { defaultParams with raisedOn := 60, highOn := 70, purgeOn := 80 }

theorem test_witness_RundownAndDwellEndTheStep :
    (stopping.phase ≠ .held ∧ stopping.Legal ∧ (stopping.zone 0).sequence = some ⟨.down, 2, 1, 0⟩
      ∧ (stopping.zone 0).stages[1]? = some ⟨⟨0, 4⟩, .stopping, none, 0, 0⟩ ∧ (stopping.zone 0).cfg.dwellDown ≠ 0
      ∧ (stopping.zone 0).band ≠ .purge)
    ∧ (dwelling.Legal ∧ (dwelling.zone 0).seq = .dwell ∧ (dwelling.zone 0).dwell = 0
      ∧ (dwelling.zone 0).target = (dwelling.zone 0).c)
    ∧ dwellingShort.Legal ∧ (dwellingShort.zone 0).c < (dwellingShort.zone 0).target
      ∧ (dwellingShort.zone 0).stages[1]? = some ⟨⟨0, 4⟩, .idle, none, 0, 0⟩
    ∧ (dwellingOver.Legal ∧ (dwellingOver.zone 0).seq = .dwell ∧ (dwellingOver.zone 0).target < (dwellingOver.zone 0).c)
    ∧ dwelling.Ready ∧ dwelling.TalliesAgree ∧ zoneParamsInRange purgeParams = true ∧ (dwelling.zone 0).band ≠ .purge
      ∧ bandAfter purgeParams (dwelling.zone 0).S (dwelling.zone 0).band = .purge
      ∧ (dwelling.zone 0).c < (dwelling.zone 0).N ∧ (dwellingOver.zone 0).c = (dwellingOver.zone 0).N :=
  ⟨⟨by decide, (by constructor <;> decide), by decide⟩,
    ⟨(by constructor <;> decide),
      by decide⟩,
    (by constructor <;> decide),
    by decide, by decide,
    ⟨(by constructor <;> decide),
      by decide⟩,
    ⟨rfl, rfl, rfl⟩, by unfold State.TalliesAgree; decide, by decide⟩

theorem test_rundown : ∃ t, exec (.rundownTimerExpiry 0 2) stopping = .next t ∧ (t.zone 0).statusAt 1 = .idle
    ∧ (t.zone 0).dwell = 600 := ⟨_, rfl, by decide⟩

theorem test_dwell_done : ∃ t, exec (.dwellTimerExpiry 0) dwelling = .next t ∧ (t.zone 0).last = ⟨0, 1, 1, .done⟩ :=
  ⟨_, rfl, by decide⟩

/-- The target on the other side: the sequence ends CUT and the highest-numbered RUNNING stage is stopped (R120, R123). -/
theorem test_dwell_cut : ∃ t, exec (.dwellTimerExpiry 0) dwellingOver = .next t ∧ (t.zone 0).last = ⟨0, 2, 2, .cut⟩
    ∧ (t.zone 0).statusAt 1 = .stopping ∧ (t.zone 0).sequence = some ⟨.down, 2, 1, 0⟩ :=
  ⟨_, rfl, by decide⟩

/-- A band that enters PURGE ends the dwell, and the next stage starts (R124). -/
theorem test_zoneSet_purge : ∃ t, exec (.zoneSetInUse 0 1 purgeParams) dwelling = .next t ∧ (t.zone 0).band = .purge
    ∧ (t.zone 0).statusAt 1 = .starting ∧ (t.zone 0).target = 2 := ⟨_, rfl, by decide⟩

/-! ## Witnesses: signs, events, lighting, CLEAR and the tick -/

theorem test_witness_SignSetWritesTheSign : sample.Ready ∧ sample.OutputsExact ∧ sample.Legal
    ∧ (sample.node ⟨1, 1⟩).service = .sign ∧ (sample.node ⟨0, 2⟩).service ≠ .sign ∧ (sample.sign 0).node = some ⟨0, 5⟩
    ∧ (∀ j, j < 32 → j ≠ 31 → (sample.sign j).node ≠ some ⟨1, 1⟩)
    ∧ (∀ z, z < 32 → (1#32).getLsbD z = true → (sample.zone z).inUse = true) ∧ (sample.zone 1).inUse = false :=
  ⟨sample_ready, sample_outputs, sample_legal, by decide⟩

theorem test_signSet : ∃ t r, exec (.signSet 31 1 1 1 1#32 1 []) sample = .next t ∧ (t.sign 31).value = 1
    ∧ (t.node ⟨1, 1⟩).outputPending = true ∧ t.buffer = some r ∧ r.payload = [0#8, 1#8] :=
  ⟨_, _, rfl, by decide, by decide, rfl, by decide⟩

/-- The small state with FULL in the set of zone 0 and LINE_FAULT in SITE. -/
def eventful : State :=
  State.withOutputs { sample with zones := [(0, { fullZone with pending := 0x4#16 })], sitePending := 0x800#16 }

theorem test_witness_EventRequestsReadAndClear : eventful.Ready ∧ eventful.OutputsExact ∧ (eventful.zone 0).pending ≠ 0#16
    ∧ eventful.sitePending ≠ 0#16 ∧ 0x4#16 &&& 0xF800#16 = 0#16 ∧ 0x800#16 &&& 0x01FF#16 = 0#16 :=
  ⟨⟨rfl, rfl, rfl⟩, State.withOutputs_exact _, by decide⟩

theorem test_eventsTake : ∃ t r, exec (.eventsTake 32 0x800#16) eventful = .next t ∧ t.sitePending = 0#16
    ∧ t.out.attn = true ∧ t.buffer = some r ∧ r.payload = [32#8, 8#8, 0#8] :=
  ⟨_, _, rfl, by decide, by decide, rfl, by decide⟩

theorem test_eventsSummary : ∃ t r, exec .eventsSummary eventful = .next t ∧ t.buffer = some r
    ∧ r.payload = [2#8, 0#8, 32#8] := ⟨_, _, rfl, rfl, by decide⟩

/-- The small state with the aisle timer of its row node at 0. -/
def aisleDue : State :=
  State.withOutputs (sample.setNode ⟨0, 1⟩ (nodeIn .live (.row 1 4 (bayState.lightsOf 1 4 (some 0)))))

theorem test_witness_AisleTimerStops : aisleDue.phase ≠ .held ∧ aisleDue.OutputsExact
    ∧ (aisleDue.node ⟨0, 1⟩).service = .row 1 4 (bayState.lightsOf 1 4 (some 0))
    ∧ (bayState.lightsOf 1 4 (some 0)).timer = some 0 :=
  ⟨by decide, State.withOutputs_exact _, by decide, rfl⟩

theorem test_witness_ClearForgetsTheLiveRecords : sample.Ready ∧ sample.OutputsExact ∧ sample.Legal :=
  ⟨sample_ready, sample_outputs, sample_legal⟩

theorem test_clear : ∃ t, exec .clear eventful = .next t ∧ (t.bay 17).census = .dark ∧ (t.zone 0).blind = true
    ∧ t.out.attn = false ∧ (t.node ⟨1, 1⟩).state = .live := ⟨_, rfl, by decide⟩

theorem test_witness_TickCountsTheTimersDown : sample.phase ≠ .held ∧ sample.OutputsExact ∧ sample.Legal
    ∧ sample.SequencersLegal := ⟨by decide, sample_outputs, sample_legal, sample_sequencers⟩

end Sys2Proof.Tests
end

section
/-! SUPPORT. Pending sets read by kind, and what the hand-overs after a change of a zone's fume part keep: the events of other
kinds, exact demand figures, and a sequencer out of DWELL (R105, R112, R120, R124). -/

namespace Sys2Proof.Machine

/-! ## Pending sets by kind -/

theorem EventKind.ofNat_bit (k : EventKind) : EventKind.ofNat k.bit = k := by cases k <;> rfl

theorem EventKind.bit_injective : Function.Injective EventKind.bit :=
  Function.LeftInverse.injective EventKind.ofNat_bit

theorem EventKind.bit_lt (k : EventKind) : k.bit < 16 := by cases k <;> decide

theorem EventKind.isIn_addTo (j k : EventKind) (m : EventSet) : j.isIn (k.addTo m) = (j.isIn m || decide (j = k)) := by
  have hbit : (1#16 <<< k.bit).getLsbD j.bit = decide (j = k) := by
    have := j.bit_lt
    have := EventKind.bit_injective.eq_iff (a := j) (b := k)
    grind
  rw [EventKind.isIn, EventKind.addTo, BitVec.getLsbD_or, hbit, EventKind.isIn]

/-- A kind stands in a set after an event is raised when it stood there, or is that event's and enabled (R172). -/
theorem EventKind.isIn_raised (j k : EventKind) (mask m : EventSet) :
    j.isIn (raised mask k m) = (j.isIn m || (j.isIn mask && decide (j = k))) := by
  unfold raised
  by_cases h : j = k
  · subst h
    cases hm : j.isIn mask <;> simp [EventKind.isIn_addTo]
  · split <;> simp [EventKind.isIn_addTo, h]

theorem Zone.raiseIf_eq (z : Zone) (b : Bool) (k : EventKind) :
    z.raiseIf b k = { z with pending := if b then raised z.cfg.mask k z.pending else z.pending } := by
  cases b <;> rfl

theorem Zone.isIn_raiseIf (z : Zone) (b : Bool) (j k : EventKind) :
    j.isIn (z.raiseIf b k).pending = (j.isIn z.pending || (b && j.isIn z.cfg.mask && decide (j = k))) := by
  cases b
  · simp [Zone.raiseIf]
  · simp [Zone.raiseIf, Zone.raise, EventKind.isIn_raised]

/-! ## Demand figures -/

/-- Recomputed figures are exact (R112). -/
theorem Zone.figures_exact (z : Zone) : z.figures.FiguresExact :=
  ⟨rfl, rfl, rfl, rfl, rfl, rfl, rfl, rfl, (Nat.max_assoc _ _ _).symm⟩

theorem changeAt_length {α : Type} (f : α → α) (l : List α) (i : Nat) : (changeAt f l i).length = l.length := by
  induction l generalizing i with
  | nil => rfl
  | cons x l ih => cases i <;> simp [changeAt, ih]

/-- A change of one item that does not move whether it meets `q` leaves the count. -/
theorem countP_changeAt {α : Type} (q : α → Bool) (f : α → α) (l : List α) (i : Nat)
    (h : ∀ x, l[i]? = some x → q (f x) = q x) : (changeAt f l i).countP q = l.countP q := by
  induction l generalizing i with
  | nil => rfl
  | cons x l ih =>
    cases i with
    | zero => simp [changeAt, List.countP_cons, h x rfl]
    | succ i => simp [changeAt, List.countP_cons, ih i h]

theorem firstPlace_meets {α : Type} (p : α → Bool) (l : List α) (i : Nat) (h : firstPlace p l = some i) (x : α)
    (hx : l[i]? = some x) : p x = true := by
  induction l generalizing i with
  | nil => cases h
  | cons y l ih =>
    unfold firstPlace at h
    split at h
    · next hy => cases h; cases hx; exact hy
    · split at h
      · next j hj => cases h; exact ih j hj hx
      · cases h

/-- Figures stay exact when no input of theirs moves: a stage that was not and is not RUNNING changes (R109, R113). -/
theorem Zone.FiguresExact.changeStage {z : Zone} (h : z.FiguresExact) (i : Nat) (f : Stage → Stage)
    (hf : ∀ g, z.stages[i]? = some g → g.status ≠ .running ∧ (f g).status ≠ .running) :
    (z.changeStage i f).FiguresExact := by
  have hN : (z.changeStage i f).N = z.N := changeAt_length f z.stages i
  have hc : (z.changeStage i f).c = z.c :=
    countP_changeAt _ f z.stages i fun g hg => by simp [hf g hg]
  unfold Zone.FiguresExact
  rw [hN, hc]
  exact h

/-! ## What the ventilation unit and the tallies keep -/

/-- The kinds that a change of a zone's demand or tallies can raise (R20, R122). -/
def EventKind.ofDemand (k : EventKind) : Prop := k = .stageShort ∨ k = .full ∨ k = .opened

/-- What a change of record `x` to `y` by the ventilation unit or by the tallies keeps. -/
structure Zone.DemandKeeps (x y : Zone) : Prop where
  events : ∀ k : EventKind, ¬ k.ofDemand → k.isIn y.pending = k.isIn x.pending
  figures : x.FiguresExact → y.FiguresExact
  seq : x.seq ≠ .dwell → y.seq ≠ .dwell

theorem Zone.DemandKeeps.refl (x : Zone) : x.DemandKeeps x := ⟨fun _ _ => rfl, id, id⟩

theorem Zone.DemandKeeps.trans {x y z : Zone} (h : x.DemandKeeps y) (k : y.DemandKeeps z) : x.DemandKeeps z :=
  ⟨fun e he => (k.events e he).trans (h.events e he), k.figures ∘ h.figures, k.seq ∘ h.seq⟩

theorem Zone.figures_keeps (z : Zone) : z.DemandKeeps z.figures := ⟨fun _ _ => rfl, fun _ => z.figures_exact, id⟩

theorem Zone.raise_keeps (z : Zone) (k : EventKind) (hk : k.ofDemand) : z.DemandKeeps (z.raise k) := by
  refine ⟨fun j hj => ?_, id, id⟩
  have hne : j ≠ k := fun h => hj (h ▸ hk)
  simp [Zone.raise, EventKind.isIn_raised, hne]

theorem Zone.raiseIf_keeps (z : Zone) (b : Bool) (k : EventKind) (hk : k.ofDemand) : z.DemandKeeps (z.raiseIf b k) := by
  cases b
  · exact .refl z
  · exact z.raise_keeps k hk

theorem Zone.endSequence_keeps (z : Zone) (o : SeqOutcome) : z.DemandKeeps (z.endSequence o) := by
  unfold Zone.endSequence
  split
  · exact ⟨fun _ _ => rfl, id, id⟩
  · exact .refl z

theorem Zone.endShort_keeps (z : Zone) : z.DemandKeeps z.endShort := by
  refine ((z.endSequence_keeps .short).trans (Zone.raise_keeps _ .stageShort (.inl rfl))).trans ?_
  exact ⟨fun _ _ => rfl, id, fun _ => by simp [Zone.endShort]⟩

theorem Zone.stepUp_keeps (z : Zone) : z.DemandKeeps z.stepUp := by
  unfold Zone.stepUp
  split
  · next i hi =>
    have hf : ∀ g, z.stages[i]? = some g →
        g.status ≠ .running ∧ (Stage.start z.cfg.proofTicks g).status ≠ .running := fun g hg => by
      have hidle := firstPlace_meets _ _ i hi g hg
      simp only [decide_eq_true_eq] at hidle
      simp [hidle, Stage.start]
    exact ⟨fun _ _ => rfl, fun h => h.changeStage i _ hf, fun _ => nofun⟩
  · exact z.endShort_keeps

theorem Zone.stepDown_keeps (z : Zone) : z.DemandKeeps z.stepDown := by
  unfold Zone.stepDown
  split
  · exact ⟨fun _ _ => rfl, fun _ => Zone.figures_exact _, fun _ => nofun⟩
  · exact .refl z

theorem Zone.step_keeps (z : Zone) (d : Direction) : z.DemandKeeps (z.step d) := by
  cases d
  · exact z.stepUp_keeps
  · exact z.stepDown_keeps

theorem Zone.stepWith_keeps (z : Zone) (q : Option Sequence) (d : Direction) :
    z.DemandKeeps (Zone.step { z with sequence := q } d) := by
  refine .trans ?_ (Zone.step_keeps _ d)
  exact ⟨fun _ _ => rfl, id, id⟩

theorem Zone.beginSequence_keeps (z : Zone) : z.DemandKeeps z.beginSequence := z.stepWith_keeps _ _

theorem Zone.reEvaluate_keeps (z : Zone) : z.DemandKeeps z.reEvaluate := by
  unfold Zone.reEvaluate
  split
  · split
    · exact .refl z
    · exact z.beginSequence_keeps
  · split
    · exact z.endSequence_keeps .done
    · split
      · exact z.stepWith_keeps _ _
      · exact (z.endSequence_keeps .cut).trans (Zone.beginSequence_keeps _)

theorem Zone.enterIdle_keeps (z : Zone) : z.DemandKeeps z.enterIdle := by
  refine .trans ?_ (Zone.reEvaluate_keeps _)
  exact ⟨fun _ _ => rfl, id, fun _ => nofun⟩

/-- A sequencer that enters IDLE does not dwell, whatever its state was (R120). -/
theorem Zone.enterIdle_seq (z : Zone) : z.enterIdle.seq ≠ .dwell := (Zone.reEvaluate_keeps _).seq nofun

theorem Zone.tellSequencer_keeps (z : Zone) : z.DemandKeeps z.tellSequencer := by
  unfold Zone.tellSequencer
  split
  · refine .trans ?_ (Zone.reEvaluate_keeps _)
    exact ⟨fun _ _ => rfl, id, id⟩
  · exact .refl z

/-- A change of the demand part goes on from the recomputed figures (R112). -/
theorem Zone.demandChange_figures_keeps (z : Zone) (p : Bool) : z.figures.DemandKeeps (z.demandChange p) := by
  unfold Zone.demandChange
  dsimp only
  split
  · exact Zone.enterIdle_keeps _
  · split
    · exact .refl _
    · exact Zone.tellSequencer_keeps _

theorem Zone.demandChange_keeps (z : Zone) (p : Bool) : z.DemandKeeps (z.demandChange p) :=
  z.figures_keeps.trans (z.demandChange_figures_keeps p)

theorem Zone.demandChange_exact (z : Zone) (p : Bool) : (z.demandChange p).FiguresExact :=
  (z.demandChange_figures_keeps p).figures z.figures_exact

/-- A change by which the band enters PURGE ends a dwell (R124). -/
theorem Zone.demandChange_purge_seq (z : Zone) : (z.demandChange true).seq ≠ .dwell := by
  by_cases h : z.figures.seq = .dwell
  · simp only [Zone.demandChange, h, and_self, if_true]
    exact Zone.enterIdle_seq _
  · exact (z.demandChange_figures_keeps true).seq h

/-- New tallies leave the load where none of those it reads moved (R18, R110). -/
theorem Zone.loadOf_tallies (z : Zone) (t : Tallies) (h : z.tallies.loadMoved t = false) :
    ({ z with tallies := t } : Zone).loadOf = z.loadOf := by
  simp only [Tallies.loadMoved, Bool.or_eq_false_iff, decide_eq_false_iff_not, ne_eq, Decidable.not_not] at h
  obtain ⟨⟨harr, hleav⟩, hholds⟩ := h
  simp only [Zone.loadOf, harr, hleav, hholds]

/-- Taking new tallies keeps exact figures, events of other kinds, and a sequencer out of DWELL (R18, R20). -/
theorem Zone.takeTallies_keeps (z : Zone) (t : Tallies) : z.DemandKeeps (z.takeTallies t) := by
  have hraise : ({ z with tallies := t } : Zone).DemandKeeps
      ((({ z with tallies := t } : Zone).raiseIf
        (decide (0 < z.tallies.offeredSum) && decide (t.offeredSum = 0)) .full).raiseIf
        (decide (z.tallies.offeredSum = 0) && decide (0 < t.offeredSum)) .opened) :=
    (Zone.raiseIf_keeps _ _ .full (.inr (.inl rfl))).trans (Zone.raiseIf_keeps _ _ .opened (.inr (.inr rfl)))
  unfold Zone.takeTallies
  dsimp only
  split
  · have h := hraise.trans (Zone.demandChange_keeps _ false)
    exact ⟨h.events, fun _ => Zone.demandChange_exact _ false, h.seq⟩
  · next hload =>
    refine .trans ?_ hraise
    refine ⟨fun _ _ => rfl, fun hz => ?_, id⟩
    obtain ⟨hL, hrest⟩ := hz
    exact ⟨hL.trans (z.loadOf_tallies t (by simpa using hload)).symm, hrest⟩

end Sys2Proof.Machine
end

section
/-! SUPPORT. The update of one zone record by a gas report, and what is handed on after it: each figure of the fume part, the
events, and the demand figures (R92, R93, R96, R98, R99, R101, R102, R105, R124). -/

namespace Sys2Proof.Machine

/-! ## Samples and indices -/

/-- A slot takes a sample when it names the node and its channel is valid (R92). -/
theorem Slot.takes_iff (g : Slot) (id : NodeId) (r0 : Nat) (v0 : Bool) (r1 : Nat) (v1 : Bool) :
    g.takes id r0 v0 r1 v1 = true ↔ g.node = id ∧ (if g.channel = 0 then v0 else v1) = true := by
  unfold Slot.takes Slot.readingIn
  split <;> cases v0 <;> cases v1 <;> simp

/-- A slot that takes a sample has its n from its channel's reading, is fresh, and its age timer is set; any other slot stays
(R92, R93). -/
theorem Slot.sample_eq (g : Slot) (stale : Nat) (id : NodeId) (r0 : Nat) (v0 : Bool) (r1 : Nat) (v1 : Bool) :
    g.sample stale id r0 v0 r1 v1 =
      if g.node = id ∧ (if g.channel = 0 then v0 else v1) = true then
        { g with n := min 4095 ((if g.channel = 0 then r0 else r1) * 1000 / g.ref), fresh := true, age := stale }
      else g := by
  unfold Slot.sample Slot.readingIn
  by_cases hid : g.node = id
  · by_cases hch : g.channel = 0
    · cases v0 <;> simp [hid, hch, normalise]
    · cases v1 <;> simp [hid, hch, normalise]
  · simp [hid]

theorem Slot.sample_fresh (g : Slot) (stale : Nat) (id : NodeId) (r0 : Nat) (v0 : Bool) (r1 : Nat) (v1 : Bool)
    (h : g.takes id r0 v0 r1 v1 = true) : (g.sample stale id r0 v0 r1 v1).fresh = true := by
  rw [Slot.sample_eq, if_pos ((g.takes_iff id r0 v0 r1 v1).mp h)]

/-- The largest of `m` and the fresh samples of a slot list (R98). -/
def indexFrom (m : Nat) (l : List Slot) : Nat := l.foldl (fun m g => if g.fresh then max m g.n else m) m

theorem indexOf_eq_indexFrom (l : List Slot) : indexOf l = indexFrom 0 l := rfl

theorem indexFrom_cons (m : Nat) (g : Slot) (l : List Slot) :
    indexFrom m (g :: l) = indexFrom (if g.fresh then max m g.n else m) l := rfl

theorem le_indexFrom_start (m : Nat) (l : List Slot) : m ≤ indexFrom m l := by
  induction l generalizing m with
  | nil => exact Nat.le_refl m
  | cons x l ih =>
    rw [indexFrom_cons]
    refine Nat.le_trans ?_ (ih _)
    split
    · exact Nat.le_max_left _ _
    · exact Nat.le_refl m

theorem le_indexFrom (m : Nat) (l : List Slot) (g : Slot) (hg : g ∈ l) (hf : g.fresh = true) : g.n ≤ indexFrom m l := by
  induction l generalizing m with
  | nil => cases hg
  | cons x l ih =>
    rw [indexFrom_cons]
    rcases List.mem_cons.mp hg with rfl | hl
    · rw [if_pos hf]
      exact Nat.le_trans (Nat.le_max_right _ _) (le_indexFrom_start _ l)
    · exact ih _ hl

theorem indexFrom_cases (m : Nat) (l : List Slot) :
    indexFrom m l = m ∨ ∃ g ∈ l, g.fresh = true ∧ g.n = indexFrom m l := by
  induction l generalizing m with
  | nil => exact .inl rfl
  | cons x l ih =>
    rw [indexFrom_cons]
    rcases ih (if x.fresh then max m x.n else m) with hstart | ⟨g, hg, hgf⟩
    · rw [hstart]
      by_cases hx : x.fresh = true ∧ m ≤ x.n
      · exact .inr ⟨x, List.mem_cons_self, hx.1, by rw [if_pos hx.1, Nat.max_eq_right hx.2]⟩
      · left
        split
        · next hf => exact Nat.max_eq_left (Nat.le_of_not_le fun h => hx ⟨hf, h⟩)
        · rfl
    · exact .inr ⟨g, List.mem_cons_of_mem _ hg, hgf⟩

/-- I is no smaller than any fresh sample (R98). -/
theorem le_indexOf (l : List Slot) (g : Slot) (hg : g ∈ l) (hf : g.fresh = true) : g.n ≤ indexOf l :=
  le_indexFrom 0 l g hg hf

/-- With a fresh slot, I is the sample of one (R98). -/
theorem indexOf_attained (l : List Slot) (h : ∃ g ∈ l, g.fresh = true) : ∃ g ∈ l, g.fresh = true ∧ g.n = indexOf l := by
  rw [indexOf_eq_indexFrom]
  rcases indexFrom_cases 0 l with h0 | hg
  · obtain ⟨g, hg, hf⟩ := h
    have := le_indexFrom 0 l g hg hf
    exact ⟨g, hg, hf, by omega⟩
  · exact hg

/-- A zone with a fresh slot is not blind (R96). -/
theorem blindCondition_of_fresh (l : List Slot) (h : ∃ g ∈ l, g.fresh = true) : blindCondition l = false := by
  have hany : l.any (·.fresh) = true := List.any_eq_true.mpr h
  simp [blindCondition, hany]

/-- S moves by a ceiling of its distance from I, up or down; at I it rests (R99). -/
theorem smoothed_eq (i s kRise kFall : Nat) :
    smoothed i s kRise kFall = if s < i then s + (i - s + 2 ^ kRise - 1) / 2 ^ kRise
      else s - (s - i + 2 ^ kFall - 1) / 2 ^ kFall := by
  unfold smoothed ceilDiv
  split
  · rfl
  · split
    · rfl
    · have hzero : (s - i + 2 ^ kFall - 1) / 2 ^ kFall = 0 :=
        Nat.div_eq_of_lt (by have := Nat.two_pow_pos kFall; omega)
      omega

/-! ## The update of a zone -/

/-- The slots of a zone once a gas report has been applied to them (R92). -/
def Zone.sampledSlots (z : Zone) (id : NodeId) (r0 : Nat) (v0 : Bool) (r1 : Nat) (v1 : Bool) : List Slot :=
  z.slots.map (Slot.sample z.cfg.staleTicks id r0 v0 r1 v1)

section
variable (z : Zone) (id : NodeId) (r0 : Nat) (v0 : Bool) (r1 : Nat) (v1 : Bool)

/-- A gas report writes a zone's slots, blind condition, I, S and band, and its pending set (R92). -/
theorem Zone.gasUpdate_eq :
    z.gasUpdate id r0 v0 r1 v1 =
      { z with
        slots := z.sampledSlots id r0 v0 r1 v1
        blind := blindCondition (z.sampledSlots id r0 v0 r1 v1)
        I := indexOf (z.sampledSlots id r0 v0 r1 v1)
        S := (z.gasUpdate id r0 v0 r1 v1).S
        band := bandAfter z.cfg (z.gasUpdate id r0 v0 r1 v1).S z.band
        pending := (z.gasUpdate id r0 v0 r1 v1).pending } := by
  simp only [Zone.gasUpdate, Zone.bandProcedure, Zone.reviewBlind, Zone.reviewI, Zone.raiseIf_eq, Zone.sampledSlots]

theorem Zone.gasUpdate_slots : (z.gasUpdate id r0 v0 r1 v1).slots = z.sampledSlots id r0 v0 r1 v1 := by
  rw [Zone.gasUpdate_eq]

theorem Zone.gasUpdate_blind :
    (z.gasUpdate id r0 v0 r1 v1).blind = blindCondition (z.sampledSlots id r0 v0 r1 v1) := by
  rw [Zone.gasUpdate_eq]

theorem Zone.gasUpdate_I : (z.gasUpdate id r0 v0 r1 v1).I = indexOf (z.sampledSlots id r0 v0 r1 v1) := by
  rw [Zone.gasUpdate_eq]

theorem Zone.gasUpdate_S :
    (z.gasUpdate id r0 v0 r1 v1).S
      = smoothed (indexOf (z.sampledSlots id r0 v0 r1 v1)) z.S z.cfg.kRise z.cfg.kFall := by
  simp only [Zone.gasUpdate, Zone.bandProcedure, Zone.reviewBlind, Zone.reviewI, Zone.raiseIf_eq, Zone.sampledSlots]

theorem Zone.gasUpdate_band :
    (z.gasUpdate id r0 v0 r1 v1).band = bandAfter z.cfg (z.gasUpdate id r0 v0 r1 v1).S z.band := by
  rw [Zone.gasUpdate_eq]

/-- The blind condition raises BLIND where it begins and SIGHTED where a zone with slots leaves it (R96). -/
theorem Zone.isIn_reviewBlind (k : EventKind) :
    k.isIn z.reviewBlind.pending = (k.isIn z.pending
      || (blindCondition z.slots && !z.blind && k.isIn z.cfg.mask && decide (k = .blind))
      || (!blindCondition z.slots && z.blind && !z.slots.isEmpty && k.isIn z.cfg.mask && decide (k = .sighted))) := by
  rw [Zone.reviewBlind, Zone.isIn_raiseIf, Zone.isIn_raiseIf, (Zone.raiseIf_inputs _ _ _).air.cfg]

/-- The band procedure raises BAND_UP or BAND_DOWN by where the band ends (R102). -/
theorem Zone.isIn_bandProcedure (k : EventKind) :
    k.isIn z.bandProcedure.pending = (k.isIn z.pending
      || (decide (z.band.rank < z.bandProcedure.band.rank) && k.isIn z.cfg.mask && decide (k = .bandUp))
      || (decide (z.bandProcedure.band.rank < z.band.rank) && k.isIn z.cfg.mask && decide (k = .bandDown))) := by
  have hband : z.bandProcedure.band = bandAfter z.cfg z.S z.band :=
    (Zone.raiseIf_inputs _ _ _).air.band.trans (Zone.raiseIf_inputs _ _ _).air.band
  rw [hband, Zone.bandProcedure, Zone.isIn_raiseIf, Zone.isIn_raiseIf, (Zone.raiseIf_inputs _ _ _).air.cfg]

/-- A zone in which a gas report has been applied up to the band procedure: steps 1 to 4 of R92. -/
def Zone.smoothedBy : Zone :=
  let sighted := ({ z with slots := z.sampledSlots id r0 v0 r1 v1 } : Zone).reviewBlind.reviewI
  { sighted with S := smoothed sighted.I sighted.S sighted.cfg.kRise sighted.cfg.kFall }

theorem Zone.gasUpdate_eq_bandProcedure :
    z.gasUpdate id r0 v0 r1 v1 = (z.smoothedBy id r0 v0 r1 v1).bandProcedure := rfl

theorem Zone.smoothedBy_cfg : (z.smoothedBy id r0 v0 r1 v1).cfg = z.cfg := by
  simp only [Zone.smoothedBy, Zone.reviewBlind, Zone.reviewI, Zone.raiseIf_eq]

theorem Zone.smoothedBy_band : (z.smoothedBy id r0 v0 r1 v1).band = z.band := by
  simp only [Zone.smoothedBy, Zone.reviewBlind, Zone.reviewI, Zone.raiseIf_eq]

/-- The events of an update in which a slot takes a sample: the band's one event, and SIGHTED where the zone was blind
(R96, R102). -/
theorem Zone.isIn_gasUpdate (k : EventKind) (h : ∃ g ∈ z.sampledSlots id r0 v0 r1 v1, g.fresh = true) :
    k.isIn (z.gasUpdate id r0 v0 r1 v1).pending = (k.isIn z.pending
      || (z.blind && k.isIn z.cfg.mask && decide (k = .sighted))
      || (decide (z.band.rank < (z.gasUpdate id r0 v0 r1 v1).band.rank) && k.isIn z.cfg.mask && decide (k = .bandUp))
      || (decide ((z.gasUpdate id r0 v0 r1 v1).band.rank < z.band.rank) && k.isIn z.cfg.mask
        && decide (k = .bandDown))) := by
  have hslots : (z.sampledSlots id r0 v0 r1 v1).isEmpty = false := by
    obtain ⟨g, hg, -⟩ := h
    exact List.isEmpty_eq_false_iff_exists_mem.mpr ⟨g, hg⟩
  have hreview : k.isIn (z.smoothedBy id r0 v0 r1 v1).pending =
      (k.isIn z.pending || (z.blind && k.isIn z.cfg.mask && decide (k = .sighted))) := by
    refine (Zone.isIn_reviewBlind _ k).trans ?_
    simp [blindCondition_of_fresh _ h, hslots]
  rw [Zone.gasUpdate_eq_bandProcedure, Zone.isIn_bandProcedure, hreview, Zone.smoothedBy_cfg, Zone.smoothedBy_band]

/-- Where a slot takes a sample, the zone has a fresh slot (R92). -/
theorem Zone.sampledSlots_fresh (h : ∃ g ∈ z.slots, g.takes id r0 v0 r1 v1 = true) :
    ∃ g ∈ z.sampledSlots id r0 v0 r1 v1, g.fresh = true := by
  obtain ⟨g, hg, ht⟩ := h
  exact ⟨_, List.mem_map_of_mem hg, g.sample_fresh _ id r0 v0 r1 v1 ht⟩

/-! ## What is handed on -/

theorem Zone.handOn_air (x y : Zone) : y.SameAir (x.handOn y) := by
  unfold Zone.handOn
  split
  · exact .refl y
  · exact (y.demandChange_inputs _).air

theorem Zone.handOn_keeps (x y : Zone) : y.DemandKeeps (x.handOn y) := by
  unfold Zone.handOn
  split
  · exact .refl y
  · exact y.demandChange_keeps _

/-- A band that enters PURGE ends a dwell (R124). -/
theorem Zone.handOn_purge_seq (x y : Zone) (hx : x.band ≠ .purge) (hy : y.band = .purge) :
    (x.handOn y).seq ≠ .dwell := by
  have hmoved : ¬ (y.S = x.S ∧ y.blind = x.blind ∧ y.band = x.band) := fun ⟨_, _, hb⟩ => hx (hb ▸ hy)
  rw [Zone.handOn, if_neg hmoved, decide_eq_true ⟨hy, hx⟩]
  exact y.demandChange_purge_seq

/-- After a gas report the demand figures are exact where they were: no input of theirs moved, or they are recomputed (R105,
R112). -/
theorem Zone.gasUpdate_handOn_exact (h : z.FiguresExact) :
    (z.handOn (z.gasUpdate id r0 v0 r1 v1)).FiguresExact := by
  unfold Zone.handOn
  split
  · next hsame =>
    obtain ⟨hS, hblind, hband⟩ := hsame
    rw [Zone.gasUpdate_blind] at hblind
    rw [Zone.gasUpdate_band, hS] at hband
    rw [Zone.gasUpdate_eq, hS, hblind, hband]
    exact h
  · exact Zone.demandChange_exact _ _

end

end Sys2Proof.Machine
end

section
/-! SUPPORT. What a report's changes leave of the whole state: the field frame, output pending marks, effects in any order,
the change of a zone record, and NODE_BACK (R67, R73, R88, R92, R104). -/

namespace Sys2Proof.Machine

/-! ## Output pending marks -/

/-- Every output pending mark that stands in `s` stands in `t` (R67). -/
def State.MarksKept (s t : State) : Prop := ∀ id, (s.node id).outputPending = true → (t.node id).outputPending = true

theorem State.MarksKept.refl (s : State) : s.MarksKept s := fun _ h => h

theorem State.MarksKept.trans {s t u : State} (h : s.MarksKept t) (k : t.MarksKept u) : s.MarksKept u :=
  fun id hid => k id (h id hid)

theorem State.MarksKept.foldl {α : Type} (f : State → α → State) (hf : ∀ (s : State) a, s.MarksKept (f s a)) (l : List α)
    (s : State) : s.MarksKept (l.foldl f s) := by
  induction l generalizing s with
  | nil => exact .refl s
  | cons a l ih => exact (hf s a).trans (ih (f s a))

/-- Writing a node record with its mark set keeps every mark. -/
theorem State.setNode_marks (s : State) (id : NodeId) (x : Node) (hx : x.outputPending = true) :
    s.MarksKept (s.setNode id x) := by
  intro i hi
  rw [State.node_setNode]
  split
  · exact hx
  · exact hi

theorem State.markOutput_marks (s : State) (id : NodeId) : s.MarksKept (s.markOutput id) := by
  unfold State.markOutput
  split
  · exact .refl s
  · exact s.setNode_marks id _ rfl

theorem State.putZone_marks (s : State) (z : Nat) (x : Zone) : s.MarksKept (s.putZone z x) :=
  .trans (t := s.setZone z x) (.refl s) (.foldl State.markOutput State.markOutput_marks _ _)

theorem State.markSignNode_marks (s : State) (node : Option NodeId) : s.MarksKept (s.markSignNode node) := by
  unfold State.markSignNode
  split
  · exact s.markOutput_marks _
  · exact .refl s

theorem State.recomputeSign_marks (s : State) (i : Nat) : s.MarksKept (s.recomputeSign i) := by
  unfold State.recomputeSign
  dsimp only
  split
  · exact .refl s
  · split
    · exact .trans (t := s.setSign i _) (.refl s) (State.markSignNode_marks _ _)
    · exact .refl s

theorem State.recomputeLights_marks (s : State) (k : Nat) : s.MarksKept (s.recomputeLights k) := by
  unfold State.recomputeLights
  dsimp only
  split
  · split
    · exact .refl s
    · exact s.setNode_marks _ _ rfl
  all_goals exact .refl s

theorem State.signsOver_marks (s : State) (zs : List Nat) : s.MarksKept (s.signsOver zs) :=
  .foldl State.recomputeSign State.recomputeSign_marks _ _

theorem State.lightsOfZone_marks (s : State) (z : Nat) : s.MarksKept (s.lightsOfZone z) :=
  .foldl State.recomputeLights State.recomputeLights_marks _ _

/-! ## One change of a zone record -/

/-- The steps a change of a zone record can consist of: the record written, its tallies moved, the signs, the light sets. What
each of them keeps, the change keeps (R30, R32, R103). -/
theorem State.changeZone_induction (P : State → Prop) (s : State) (z : Nat) (x : Zone) (put : P (s.putZone z x))
    (tallies : P (s.putZone z x) → P (((s.putZone z x).retally z).signsOver [z]))
    (lights : ∀ t, P t → P (t.lightsOfZone z)) : P (s.changeZone z x) := by
  unfold State.changeZone
  dsimp only
  have h : P (if (s.zone z).shed = x.shed ∧ (s.zone z).inUse = x.inUse then s.putZone z x
      else ((s.putZone z x).retally z).signsOver [z]) := by
    split
    · exact put
    · exact tallies put
  split
  · exact h
  · exact lights _ h

theorem State.changeZone_marks (s : State) (z : Nat) (x : Zone) : s.MarksKept (s.changeZone z x) :=
  s.changeZone_induction s.MarksKept z x (s.putZone_marks z x)
    (fun h => (h.trans (State.putZone_marks _ _ _)).trans (State.signsOver_marks _ _))
    (fun t h => h.trans (t.lightsOfZone_marks z))

theorem State.putZone_answer (s : State) (z : Nat) (x : Zone) :
    (s.putZone z x).buffer = s.buffer ∧ (s.putZone z x).miso = s.miso := by
  have h : (s.setZone z x).HandOver (s.putZone z x) := .foldl State.markOutput (fun s id => s.markOutput_handOver id) _ _
  exact ⟨h.buffer, h.miso⟩

/-- A change of a zone record leaves the response and the bytes last driven. -/
theorem State.changeZone_answer (s : State) (z : Nat) (x : Zone) :
    (s.changeZone z x).buffer = s.buffer ∧ (s.changeZone z x).miso = s.miso := by
  have handOver : ∀ t u : State, t.HandOver u → t.buffer = s.buffer ∧ t.miso = s.miso → u.buffer = s.buffer ∧ u.miso = s.miso :=
    fun t u h ⟨hbuffer, hmiso⟩ => ⟨h.buffer.trans hbuffer, h.miso.trans hmiso⟩
  exact s.changeZone_induction (fun t => t.buffer = s.buffer ∧ t.miso = s.miso) z x (s.putZone_answer z x)
    (handOver _ _ ((State.retally_handOver _ z).trans (State.signsOver_handOver _ [z])))
    (fun t => handOver t _ (t.lightsOfZone_handOver z))

/-- Record `y` is record `x`, or `x` with its tallies moved (R18, R32). -/
def Zone.Retallied (x y : Zone) : Prop := y = x ∨ ∃ t, y = x.takeTallies t

theorem Zone.Retallied.air {x y : Zone} (h : x.Retallied y) : x.SameAir y := by
  obtain rfl | ⟨t, rfl⟩ := h
  · exact .refl _
  · exact x.takeTallies_air t

theorem Zone.Retallied.keeps {x y : Zone} (h : x.Retallied y) : x.DemandKeeps y := by
  obtain rfl | ⟨t, rfl⟩ := h
  · exact .refl _
  · exact x.takeTallies_keeps t

theorem State.zone_of_zones {s t : State} (h : t.zones = s.zones) (z : Nat) : t.zone z = s.zone z := by
  unfold State.zone
  rw [h]

/-- The record changed reads as what it was changed to, its tallies moved where the offer follows it (R32). -/
theorem State.changeZone_retallied (s : State) (z : Nat) (x : Zone) : x.Retallied ((s.changeZone z x).zone z) := by
  have hput : (s.putZone z x).zone z = x := by rw [State.zone_putZone, if_pos rfl]
  refine s.changeZone_induction (fun t => x.Retallied (t.zone z)) z x (.inl hput) (fun _ => .inr ?_) fun t h => ?_
  · refine ⟨(s.putZone z x).tallyOf z, ?_⟩
    rw [State.zone_of_zones (State.signsOver_zones _ _), State.retally, State.zone_putZone, if_pos rfl, hput]
  · rw [State.zone_of_zones (State.lightsOfZone_zones _ _)]
    exact h

/-! ## The frame of a report's changes -/

theorem State.FieldFrame.refl (s : State) : s.FieldFrame s :=
  ⟨rfl, rfl, rfl, rfl, rfl, rfl, rfl, rfl, rfl, fun _ => ⟨rfl, rfl, rfl, rfl⟩, fun _ => .refl _⟩

theorem State.FieldFrame.trans {s t u : State} (h : s.FieldFrame t) (k : t.FieldFrame u) : s.FieldFrame u := by
  refine ⟨k.phase.trans h.phase, k.ticks.trans h.ticks, k.ignoring.trans h.ignoring, k.routes.trans h.routes,
    k.site.trans h.site, k.edit.trans h.edit, k.buffer.trans h.buffer, k.miso.trans h.miso, k.pending.trans h.pending,
    fun z => ?_, fun i => (h.signs i).trans (k.signs i)⟩
  obtain ⟨hcfg, huse, hshed, hfloor⟩ := h.cfg z
  obtain ⟨kcfg, kuse, kshed, kfloor⟩ := k.cfg z
  exact ⟨kcfg.trans hcfg, kuse.trans huse, kshed.trans hshed, kfloor.trans hfloor⟩

/-- What changes of zone records' fume parts leave of the state outside the zones (R103, R105). -/
structure State.FumeFrame (s t : State) : Prop where
  field : s.FieldFrame t
  bays : t.bays = s.bays
  sitePending : t.sitePending = s.sitePending
  lines : t.lines = s.lines
  nodes : ∀ id, (s.node id).SameLink (t.node id)
  marks : s.MarksKept t

theorem State.FumeFrame.refl (s : State) : s.FumeFrame s := ⟨.refl s, rfl, rfl, rfl, fun _ => .refl _, .refl s⟩

theorem State.FumeFrame.trans {s t u : State} (h : s.FumeFrame t) (k : t.FumeFrame u) : s.FumeFrame u :=
  ⟨h.field.trans k.field, k.bays.trans h.bays, k.sitePending.trans h.sitePending, k.lines.trans h.lines,
   fun id => (h.nodes id).trans (k.nodes id), h.marks.trans k.marks⟩

/-- The settings of zone record `y`, which the host writes, are those of `x`. -/
def Zone.SameSettings (x y : Zone) : Prop :=
  y.cfg = x.cfg ∧ y.inUse = x.inUse ∧ y.hostShed = x.hostShed ∧ y.hostFloor = x.hostFloor

theorem Zone.SameAir.settings {x y : Zone} (h : x.SameAir y) : x.SameSettings y :=
  ⟨h.cfg, h.inUse, h.hostShed, h.hostFloor⟩

theorem Zone.SameSettings.trans {x y z : Zone} (h : x.SameSettings y) (k : y.SameSettings z) : x.SameSettings z := by
  obtain ⟨hcfg, huse, hshed, hfloor⟩ := h
  obtain ⟨kcfg, kuse, kshed, kfloor⟩ := k
  exact ⟨kcfg.trans hcfg, kuse.trans huse, kshed.trans hshed, kfloor.trans hfloor⟩

/-- A change of a zone record that keeps its settings is within the frame of a report's changes. -/
theorem State.changeZone_fumeFrame (s : State) (z : Nat) (x : Zone) (hx : (s.zone z).SameSettings x) :
    s.FumeFrame (s.changeZone z x) := by
  have h := s.changeZone_frame z x
  obtain ⟨hbuffer, hmiso⟩ := s.changeZone_answer z x
  have hsettings : ∀ i, (s.zone i).SameSettings ((s.changeZone z x).zone i) := fun i => by
    by_cases hi : i = z
    · subst hi
      exact hx.trans (s.changeZone_air i x).settings
    · rw [h.zones i hi]
      exact ⟨rfl, rfl, rfl, rfl⟩
  exact ⟨⟨h.phase, h.ticks, h.ignoring, h.routes, h.site, h.edit, hbuffer, hmiso, h.pending, hsettings, h.signs⟩,
    h.bays, h.sitePending, h.lines, h.nodes, s.changeZone_marks z x⟩

/-- The output pins are outside the frame of a report's changes. -/
theorem State.withOutputs_fumeFrame (s : State) : s.FumeFrame s.withOutputs :=
  ⟨⟨rfl, rfl, rfl, rfl, rfl, rfl, rfl, rfl, rfl, fun _ => ⟨rfl, rfl, rfl, rfl⟩, fun _ => .refl _⟩, rfl, rfl, rfl,
    fun _ => .refl _, .refl s⟩

theorem State.VisitEnded.fumeFrame {s t u : State} {l : Nat} (h : s.VisitEnded t l) (k : t.FumeFrame u) :
    s.VisitEnded u l := by
  have hline : ∀ i, u.line i = t.line i := fun i => by
    unfold State.line
    rw [k.lines]
  exact ⟨h.frame.trans k.field, (hline l).trans h.line, fun i hi => (hline i).trans (h.lines i hi)⟩

/-! ## Several zones changed -/

/-- Zone `z` changed by `f`, with its hand-overs. -/
def State.updateZone (f : Zone → Zone) (s : State) (z : Nat) : State := s.changeZone z (f (s.zone z))

theorem State.zone_updateZone_of_ne (f : Zone → Zone) (s : State) {z i : Nat} (h : i ≠ z) :
    (s.updateZone f z).zone i = s.zone i := (s.changeZone_frame z _).zones i h

theorem State.updateZones_fumeFrame (f : Zone → Zone) (hf : ∀ x : Zone, x.SameSettings (f x)) (l : List Nat) (s : State) :
    s.FumeFrame (l.foldl (State.updateZone f) s) := by
  induction l generalizing s with
  | nil => exact .refl s
  | cons z l ih => exact (s.changeZone_fumeFrame z _ (hf _)).trans (ih _)

theorem State.zone_updateZones_of_not_mem (f : Zone → Zone) (l : List Nat) (s : State) (i : Nat) (hi : i ∉ l) :
    (l.foldl (State.updateZone f) s).zone i = s.zone i := by
  induction l generalizing s with
  | nil => rfl
  | cons z l ih =>
    obtain ⟨hne, hi⟩ : i ≠ z ∧ i ∉ l := by simpa using hi
    exact (ih _ hi).trans (s.zone_updateZone_of_ne f hne)

/-- Each zone of a list without repeats is changed once, from the record it had (R92). -/
theorem State.zone_updateZones_of_mem (f : Zone → Zone) (l : List Nat) (hl : l.Nodup) (s : State) (i : Nat) (hi : i ∈ l) :
    (f (s.zone i)).Retallied ((l.foldl (State.updateZone f) s).zone i) := by
  induction l generalizing s with
  | nil => cases hi
  | cons z l ih =>
    obtain ⟨hz, hl⟩ := List.nodup_cons.mp hl
    rw [List.foldl_cons]
    rcases List.mem_cons.mp hi with rfl | hi
    · rw [State.zone_updateZones_of_not_mem f l _ i hz]
      exact s.changeZone_retallied i _
    · have hne : i ≠ z := fun h => hz (h ▸ hi)
      rw [← s.zone_updateZone_of_ne f hne]
      exact ih hl _ hi

/-! ## Effects in any order -/

theorem insertByRank_perm (rank : Nat → Nat) (x : Nat) (l : List Nat) : (insertByRank rank x l).Perm (x :: l) := by
  induction l with
  | nil => exact .refl _
  | cons y l ih =>
    unfold insertByRank
    split
    · exact .refl _
    · exact (ih.cons y).trans (.swap x y l)

theorem sortByRank_perm (rank : Nat → Nat) (l : List Nat) : (sortByRank rank l).Perm l := by
  induction l with
  | nil => exact .refl _
  | cons x l ih => exact (insertByRank_perm rank x _).trans (ih.cons x)

/-- Effects without order are taken in some order, with at most a free choice counted (log entry 10). -/
theorem State.inAnyOrder_eq (s : State) (f : State → Nat → State) (items : List Nat) :
    ∃ (l : List Nat) (n : Nat), l.Perm items ∧ s.inAnyOrder f items = l.foldl f { s with choices := n } := by
  unfold State.inAnyOrder
  split
  · exact ⟨[], s.choices, .refl _, rfl⟩
  · exact ⟨_, s.choices, .refl _, rfl⟩
  · dsimp only
    split
    · exact ⟨_, s.choices, .refl _, rfl⟩
    · exact ⟨_, _, sortByRank_perm _ _, rfl⟩

/-! ## The zones that meet a condition -/

theorem State.mem_zonesWhere (s : State) (p : Zone → Bool) (z : Nat) :
    z ∈ s.zonesWhere p ↔ z < 32 ∧ p (s.zone z) = true := by
  simp [State.zonesWhere, zoneNumbers, Config.zoneCount]

theorem State.zonesWhere_nodup (s : State) (p : Zone → Bool) : (s.zonesWhere p).Nodup := List.nodup_range.filter _

/-! ## An event raised in several zones -/

/-- Raising an event in zones writes zone records only. -/
theorem State.raiseZones_eq (k : EventKind) (l : List Nat) (s : State) :
    l.foldl (fun s z => s.raiseZone k z) s = { s with zones := (l.foldl (fun s z => s.raiseZone k z) s).zones } := by
  induction l generalizing s with
  | nil => rfl
  | cons z l ih =>
    rw [List.foldl_cons, ih]
    rfl

theorem State.zone_raiseZones (k : EventKind) (l : List Nat) (hl : l.Nodup) (s : State) (i : Nat) :
    (l.foldl (fun s z => s.raiseZone k z) s).zone i = if i ∈ l then (s.zone i).raise k else s.zone i := by
  induction l generalizing s with
  | nil => simp
  | cons z l ih =>
    obtain ⟨hz, hl⟩ := List.nodup_cons.mp hl
    rw [List.foldl_cons, ih hl, State.raiseZone, State.zone_setZone]
    by_cases hi : i = z
    · simp [hi, hz]
    · simp [hi]

end Sys2Proof.Machine
end

section
/-! SUPPORT. A valid reply of a gas node taken up to its report, and the gas report applied (R73, R78, R79, R88, R92). -/

namespace Sys2Proof.Machine

/-! ## A gas node's record -/

theorem Service.kind_eq_gas {v : Service} (h : v.kind = some .gas) : v = .gas := by
  cases v <;> simp_all [Service.kind]

/-- A gas node's record keeps all but its mark where its link fields are kept. -/
theorem Node.SameLink.eq_of_gas {m n : Node} (h : m.SameLink n) (hm : m.service = .gas) :
    n = { m with outputPending := n.outputPending } := by
  obtain ⟨hstate, hmisses, htoggle, hmarker, hkind, -, -⟩ := h
  have hservice : n.service = m.service := by
    rw [hm] at hkind ⊢
    exact Service.kind_eq_gas hkind
  cases n
  simp_all

theorem State.serves_gas (s : State) (id : NodeId) (h : (s.node id).service = .gas) (z : Nat) :
    s.Serves id z ↔ z ∈ s.zonesWhere (·.hasSlotOf id) := by
  simp [State.Serves, h, State.mem_zonesWhere, Zone.hasSlotOf]

/-! ## NODE_BACK -/

/-- A node's event writes pending sets only (R88). -/
theorem State.raiseNodeEvent_eq (s : State) (id : NodeId) (k : EventKind) :
    s.raiseNodeEvent id k =
      { s with zones := (s.raiseNodeEvent id k).zones, sitePending := (s.raiseNodeEvent id k).sitePending } := by
  unfold State.raiseNodeEvent
  split
  · rfl
  · rw [State.raiseZones_eq]

/-- A gas node's event is raised in the zones with a slot that names it, and in SITE where there is none (R88). -/
theorem State.raiseNodeEvent_gas (s : State) (id : NodeId) (k : EventKind) (h : (s.node id).service = .gas) :
    (∀ z, (s.Serves id z → (s.raiseNodeEvent id k).zone z = (s.zone z).raise k)
        ∧ (¬ s.Serves id z → (s.raiseNodeEvent id k).zone z = s.zone z))
      ∧ ((∀ z, ¬ s.Serves id z) → (s.raiseNodeEvent id k).sitePending = raised s.site.mask k s.sitePending)
      ∧ (¬ (∀ z, ¬ s.Serves id z) → (s.raiseNodeEvent id k).sitePending = s.sitePending) := by
  have hzones : s.eventZones id = s.zonesWhere (·.hasSlotOf id) := by simp [State.eventZones, h]
  simp only [s.serves_gas id h, ← hzones]
  have hnodup : (s.eventZones id).Nodup := hzones ▸ s.zonesWhere_nodup _
  unfold State.raiseNodeEvent
  split
  · next hnone =>
    exact ⟨fun z => ⟨fun hz => absurd hz (by simp [hnone]), fun _ => rfl⟩, fun _ => rfl,
      fun hsome => absurd (by simp [hnone]) hsome⟩
  · next z zs hsome =>
    rw [← hsome]
    refine ⟨fun i => ?_, fun hno => ?_, fun _ => by rw [State.raiseZones_eq]⟩
    · rw [State.zone_raiseZones k _ hnodup]
      exact ⟨fun hi => if_pos hi, fun hi => if_neg hi⟩
    · exact absurd (hsome ▸ List.mem_cons_self) (hno z)

/-! ## A valid reply up to its report -/

/-- A node record once a valid reply is taken: no misses, and back from SILENT with its output pending (R73). -/
def Node.answered (n : Node) : Node :=
  { n with misses := 0, state := if n.state = .silent then .live else n.state,
           outputPending := n.outputPending || decide (n.state = .silent) }

theorem State.answeredVisit_eq (s : State) (id : NodeId) :
    s.answeredVisit id =
      if (s.node id).state = .silent then (s.setNode id (s.node id).answered).raiseNodeEvent id .nodeBack
      else s.setNode id (s.node id).answered := by
  unfold State.answeredVisit Node.answered
  dsimp only
  split
  · next h => simp [h]
  · next h => simp [h]

/-- A valid reply writes the node's record and pending sets only (R73). -/
theorem State.answeredVisit_writes (s : State) (id : NodeId) :
    s.answeredVisit id =
      { s.setNode id (s.node id).answered with
        zones := (s.answeredVisit id).zones, sitePending := (s.answeredVisit id).sitePending } := by
  rw [State.answeredVisit_eq]
  split
  · rw [State.raiseNodeEvent_eq]
  · rfl

theorem State.answeredVisit_node (s : State) (id j : NodeId) :
    (s.answeredVisit id).node j = (s.setNode id (s.node id).answered).node j := by
  rw [State.answeredVisit_writes]
  rfl

/-- A valid reply of a gas node raises NODE_BACK where R88 says, when the node was SILENT (R73). -/
theorem State.answeredVisit_heard (s : State) (id : NodeId) (h : (s.node id).service = .gas) :
    (∀ z, s.HeardZone id z ((s.answeredVisit id).zone z)) ∧ s.HeardSite id (s.answeredVisit id).sitePending := by
  have hserves : ∀ z, (s.setNode id (s.node id).answered).Serves id z ↔ s.Serves id z := fun z => by
    rw [State.serves_gas _ id (by simpa [Node.answered] using h), s.serves_gas id h]
    rfl
  rw [State.answeredVisit_eq]
  split
  · next hsilent =>
    obtain ⟨hzone, hsite, hother⟩ :=
      (s.setNode id (s.node id).answered).raiseNodeEvent_gas id .nodeBack (by simpa [Node.answered] using h)
    simp only [hserves] at hzone hsite hother
    exact ⟨fun z => ⟨fun ⟨_, hz⟩ => (hzone z).1 hz, fun hz => (hzone z).2 fun hs => hz ⟨hsilent, hs⟩⟩,
      fun ⟨_, hno⟩ => hsite hno, fun hz => hother fun hno => hz ⟨hsilent, hno⟩⟩
  · next hlive =>
    exact ⟨fun z => ⟨fun hz => absurd hz.1 hlive, fun _ => rfl⟩, fun hz => absurd hz.1 hlive, fun _ => rfl⟩

/-- What stands in `t` when the reply to the visit of line `l` has been taken from gas node `id` and its fresh report, with
toggle `tog`, is about to be applied (R73, R78). -/
structure State.HeardReport (s t : State) (l : Nat) (id : NodeId) (tog : Bool) : Prop where
  ended : s.VisitEnded t l
  bays : t.bays = s.bays
  site : s.HeardSite id t.sitePending
  node : t.node id = (s.node id).taken tog .none
  others : ∀ j : NodeId, j.key ≠ id.key → t.node j = s.node j
  zones : ∀ z, s.HeardZone id z (t.zone z)

/-- The record of zone `z` once a node is heard differs in its pending set at most. -/
theorem State.HeardZone.inputs {s : State} {id : NodeId} {z : Nat} {x : Zone} (h : s.HeardZone id z x) :
    (s.zone z).SameInputs x := by
  obtain ⟨hraised, hkept⟩ := h
  by_cases hs : (s.node id).state = .silent ∧ s.Serves id z
  · rw [hraised hs]
    exact Zone.raise_inputs _ _
  · rw [hkept hs]
    exact .refl _

/-- The state in which the report of node `id` is applied: the visit ended, the reply taken and the toggle turned. -/
def State.heard (s : State) (l : Nat) (id : NodeId) (tog : Bool) : State :=
  ((s.endVisit l).answeredVisit id).setNode id ((s.node id).taken tog .none)

theorem State.heard_report (s : State) (l : Nat) (id : NodeId) (tog : Bool) (h : (s.node id).service = .gas) :
    s.HeardReport (s.heard l id tog) l id tog := by
  have hwrites := (s.endVisit l).answeredVisit_writes id
  obtain ⟨hzones, hsite⟩ := (s.endVisit l).answeredVisit_heard id h
  have hline : ∀ i, (s.heard l id tog).line i = (s.endVisit l).line i := fun i => by
    rw [State.heard, State.setNode_line, hwrites]
    rfl
  refine ⟨⟨?frame, ?line, ?lines⟩, ?bays, hsite, State.node_setNode_self _ _ _, ?others, hzones⟩
  case frame =>
    refine ⟨?_, ?_, ?_, ?_, ?_, ?_, ?_, ?_, ?_, fun z => (hzones z).inputs.air.settings, fun i => ?sign⟩
    case sign =>
      rw [State.heard, State.setNode_sign, hwrites]
      exact .refl _
    all_goals
      rw [State.heard, hwrites]
      rfl
  case line => rw [hline, State.endVisit, State.line_setLine_self]
  case lines =>
    intro i hi
    rw [hline, State.endVisit, State.line_setLine, if_neg hi]
  case bays =>
    rw [State.heard, State.setNode_bays, hwrites]
    rfl
  case others =>
    intro j hj
    rw [State.heard, State.node_setNode, if_neg hj, State.answeredVisit_node, State.node_setNode, if_neg hj]
    rfl

/-! ## The node visited -/

theorem State.Legal.line {s : State} (h : s.Legal) (l : Nat) : (s.line l).Legal := by
  rcases Table.get_cases Line.powerOn s.lines l with hd | hm
  · rw [State.line, hd]
    decide
  · exact h.lines _ hm

theorem NodeId.key_ne {i j : NodeId} (hi : i.Exists) (hj : j.Exists) (h : i ≠ j) : i.key ≠ j.key := by
  obtain ⟨li, ai⟩ := i
  obtain ⟨lj, aj⟩ := j
  obtain ⟨-, -, hai⟩ := hi
  obtain ⟨-, -, haj⟩ := hj
  simp only [NodeId.key, ne_eq, NodeId.mk.injEq] at h ⊢
  dsimp only at hai haj
  omega

theorem State.Waiting.nodeExists {s : State} {l : Nat} {v : Visit} {k : NodeKind} (h : s.Waiting l v k) (hs : s.Legal) :
    NodeId.Exists ⟨l, v.address⟩ := by
  obtain ⟨-, -, -, hvisits, -⟩ := hs.line l
  exact ⟨h.line, hvisits v h.visit⟩

/-! ## The reply and its report -/

/-- A valid report of a bound node that a line waits for is judged after the visit has ended and the reply is taken (R73,
R78). -/
theorem exec_validReply_report {s : State} {l : Nat} {v : Visit} {k : NodeKind} {chars : List Char9} {tog : Bool}
    {body : Report} (hw : s.Waiting l v k) (hp : parseReply k v.address chars = some (.report tog body))
    (hon : (s.node ⟨l, v.address⟩).state ≠ .off) :
    exec (.validReply l chars) s =
      .next (((s.endVisit l).answeredVisit ⟨l, v.address⟩).judgeReport ⟨l, v.address⟩ tog body).withOutputs := by
  have hawait : (s.line l).awaiting = some v := by simp [Line.awaiting, hw.scanning, hw.sent, hw.visit]
  have hkind : ((s.endVisit l).node ⟨l, v.address⟩).service.kind = some k := hw.kind
  have hon' : ((s.endVisit l).node ⟨l, v.address⟩).state ≠ .off := hon
  show execValidReply l chars s = _
  simp only [execValidReply, event_eq, if_neg hw.running, State.concludeVisit, hawait, hw.current, Bool.false_eq_true,
    if_false, State.replyTo, if_neg hon', hkind, hp, State.takeReply]

/-- A fresh report of a node that is not BARRED turns the toggle, sets the marker, and is applied (R78, R79). -/
theorem State.judgeReport_applied (s : State) (id : NodeId) (tog : Bool) (body : Report)
    (hfresh : (s.node id).toggle.fresh tog = true) (hstate : (s.node id).state ≠ .barred) :
    s.judgeReport id tog body
      = (s.setNode id { s.node id with toggle := opposite tog, marker := (s.node id).markerFor body }).applyReport id body := by
  unfold State.judgeReport
  dsimp only
  rw [if_pos hfresh, if_neg hstate]

/-- A fresh gas report of a node that was LIVE or SILENT is applied to the heard state (R73, R78, R79). -/
theorem State.judgeReport_gas (s : State) (l : Nat) (id : NodeId) (tog : Bool) (r0 : Nat) (v0 : Bool) (r1 : Nat) (v1 : Bool)
    (hstate : (s.node id).state = .live ∨ (s.node id).state = .silent) (hfresh : (s.node id).toggle.fresh tog = true) :
    ((s.endVisit l).answeredVisit id).judgeReport id tog (.gas r0 v0 r1 v1)
      = (s.heard l id tog).gasReport id r0 v0 r1 v1 := by
  have hnode : ((s.endVisit l).answeredVisit id).node id = (s.node id).answered := by
    rw [State.answeredVisit_node, State.node_setNode_self]
    rfl
  have hlive : (s.node id).answered.state = .live := by
    rcases hstate with h | h <;> simp [Node.answered, h]
  have hmarker : (s.node id).answered.markerFor (.gas r0 v0 r1 v1) = .none := by
    simp [Node.markerFor, hlive, Node.answersBusy]
  rw [State.judgeReport_applied _ _ _ _ (hnode ▸ hfresh) (by simp [hnode, hlive]), hnode, hmarker]
  rfl

/-- A zone record after a gas report of node `id`, with what is handed on (R92, R105). -/
def Zone.gasReported (id : NodeId) (r0 : Nat) (v0 : Bool) (r1 : Nat) (v1 : Bool) (x : Zone) : Zone :=
  x.handOn (x.gasUpdate id r0 v0 r1 v1)

theorem Zone.gasReported_settings (id : NodeId) (r0 : Nat) (v0 : Bool) (r1 : Nat) (v1 : Bool) (x : Zone) :
    x.SameSettings (x.gasReported id r0 v0 r1 v1) := by
  refine .trans ?_ (Zone.handOn_air x (x.gasUpdate id r0 v0 r1 v1)).settings
  rw [Zone.gasUpdate_eq]
  exact ⟨rfl, rfl, rfl, rfl⟩

/-- A gas report leaves everything outside the fume parts but their hand-overs, updates each zone with a slot taking a sample
once, and no other zone (R92, R104). -/
theorem State.gasReport_effect (s : State) (id : NodeId) (r0 : Nat) (v0 : Bool) (r1 : Nat) (v1 : Bool) :
    s.FumeFrame (s.gasReport id r0 v0 r1 v1)
      ∧ ∀ z, z < 32 →
        ((∀ g ∈ (s.zone z).slots, ¬ g.takes id r0 v0 r1 v1 = true) → (s.gasReport id r0 v0 r1 v1).zone z = s.zone z)
        ∧ ((∃ g ∈ (s.zone z).slots, g.takes id r0 v0 r1 v1 = true) →
          ((s.zone z).gasReported id r0 v0 r1 v1).Retallied ((s.gasReport id r0 v0 r1 v1).zone z)) := by
  obtain ⟨l, n, hperm, heq⟩ := s.inAnyOrder_eq (State.updateZone (Zone.gasReported id r0 v0 r1 v1))
    (s.zonesWhere fun z => z.slots.any (Slot.takes id r0 v0 r1 v1))
  have hmem : ∀ z, z < 32 → (z ∈ l ↔ ∃ g ∈ (s.zone z).slots, g.takes id r0 v0 r1 v1 = true) := fun z hz => by
    simp [hperm.mem_iff, State.mem_zonesWhere, hz]
  have hreport : s.gasReport id r0 v0 r1 v1
      = l.foldl (State.updateZone (Zone.gasReported id r0 v0 r1 v1)) { s with choices := n } := heq
  rw [hreport]
  have hcounted : s.FumeFrame { s with choices := n } :=
    ⟨⟨rfl, rfl, rfl, rfl, rfl, rfl, rfl, rfl, rfl, fun _ => ⟨rfl, rfl, rfl, rfl⟩, fun _ => .refl _⟩, rfl, rfl, rfl,
      fun _ => .refl _, .refl s⟩
  refine ⟨hcounted.trans (State.updateZones_fumeFrame _ (Zone.gasReported_settings id r0 v0 r1 v1) l _),
    fun z hz => ⟨fun hno => ?_, fun hsome => ?_⟩⟩
  · refine State.zone_updateZones_of_not_mem _ l _ z fun hzl => ?_
    obtain ⟨g, hg, ht⟩ := (hmem z hz).mp hzl
    exact hno g hg ht
  · exact State.zone_updateZones_of_mem _ l (hperm.nodup_iff.mpr (s.zonesWhere_nodup _)) _ z ((hmem z hz).mpr hsome)

end Sys2Proof.Machine
end

section
/-! CERTIFICATE. A fresh gas report updates the samples, I, S, band and figures of its zones. -/

namespace Sys2Proof.Machine

/-- What a gas report in which a slot takes a sample makes of zone record `x`: record `y` (R92 to R105, R124). -/
structure Zone.GasReported (id : NodeId) (r0 : Nat) (v0 : Bool) (r1 : Nat) (v1 : Bool) (x y : Zone) : Prop where
  slots : y.slots = x.sampledSlots id r0 v0 r1 v1
  blind : y.blind = false
  I : y.I = indexOf y.slots
  sampled : ∃ g ∈ y.slots, g.fresh = true
  S : y.S = smoothed y.I x.S x.cfg.kRise x.cfg.kFall
  band : y.band = bandAfter x.cfg y.S x.band
  events : ∀ k : EventKind, ¬ k.ofDemand → k.isIn y.pending = (k.isIn x.pending
    || (x.blind && k.isIn x.cfg.mask && decide (k = .sighted))
    || (decide (x.band.rank < y.band.rank) && k.isIn x.cfg.mask && decide (k = .bandUp))
    || (decide (y.band.rank < x.band.rank) && k.isIn x.cfg.mask && decide (k = .bandDown)))
  figures : x.FiguresExact → y.FiguresExact
  seq : x.band ≠ .purge → y.band = .purge → y.seq ≠ .dwell

theorem Zone.gasReported_spec {id : NodeId} {r0 : Nat} {v0 : Bool} {r1 : Nat} {v1 : Bool} {x y : Zone}
    (hs : ∃ g ∈ x.slots, g.takes id r0 v0 r1 v1 = true) (hy : (x.gasReported id r0 v0 r1 v1).Retallied y) :
    x.GasReported id r0 v0 r1 v1 y := by
  have hfresh := x.sampledSlots_fresh id r0 v0 r1 v1 hs
  have hair : (x.gasUpdate id r0 v0 r1 v1).SameAir y := (Zone.handOn_air x _).trans hy.air
  have hkeeps : (x.gasUpdate id r0 v0 r1 v1).DemandKeeps y := (Zone.handOn_keeps x _).trans hy.keeps
  have hslots := hair.slots.trans (x.gasUpdate_slots id r0 v0 r1 v1)
  have hI := hair.I.trans (x.gasUpdate_I id r0 v0 r1 v1)
  constructor
  case slots => exact hslots
  case blind => rw [hair.blind, Zone.gasUpdate_blind, blindCondition_of_fresh _ hfresh]
  case I => rw [hI, hslots]
  case sampled => rw [hslots]; exact hfresh
  case S => rw [hI, hair.S, Zone.gasUpdate_S]
  case band => rw [hair.band, hair.S, Zone.gasUpdate_band]
  case events =>
    intro k hk
    rw [hkeeps.events k hk, Zone.isIn_gasUpdate _ _ _ _ _ _ k hfresh, hair.band]
  case figures => exact fun hx => hy.keeps.figures (x.gasUpdate_handOn_exact id r0 v0 r1 v1 hx)
  case seq =>
    intro hx hpurge
    exact hy.keeps.seq (x.handOn_purge_seq _ hx (hair.band ▸ hpurge))

section
variable {id : NodeId} {r0 : Nat} {v0 : Bool} {r1 : Nat} {v1 : Bool} {x y : Zone}

theorem Zone.GasReported.isIn_bandUp (h : x.GasReported id r0 v0 r1 v1 y) :
    EventKind.isIn .bandUp y.pending = (EventKind.isIn .bandUp x.pending
      || (EventKind.isIn .bandUp x.cfg.mask && decide (x.band.rank < y.band.rank))) := by
  rw [h.events .bandUp (by simp [EventKind.ofDemand])]
  simp [Bool.and_comm]

theorem Zone.GasReported.isIn_bandDown (h : x.GasReported id r0 v0 r1 v1 y) :
    EventKind.isIn .bandDown y.pending = (EventKind.isIn .bandDown x.pending
      || (EventKind.isIn .bandDown x.cfg.mask && decide (y.band.rank < x.band.rank))) := by
  rw [h.events .bandDown (by simp [EventKind.ofDemand])]
  simp [Bool.and_comm]

theorem Zone.GasReported.isIn_blind (h : x.GasReported id r0 v0 r1 v1 y) :
    EventKind.isIn .blind y.pending = EventKind.isIn .blind x.pending := by
  rw [h.events .blind (by simp [EventKind.ofDemand])]
  simp

theorem Zone.GasReported.isIn_sighted (h : x.GasReported id r0 v0 r1 v1 y) :
    EventKind.isIn .sighted y.pending = (EventKind.isIn .sighted x.pending
      || (EventKind.isIn .sighted x.cfg.mask && x.blind)) := by
  rw [h.events .sighted (by simp [EventKind.ofDemand])]
  simp [Bool.and_comm]

end

/-- Settles O48. The visit ends and the reply is taken, and then each zone with a slot on a valid channel is updated once from
its record as heard, in whatever order the zones are taken. -/
theorem gasReportUpdatesTheZones : Obligations.GasReportUpdatesTheZones := by
  intro s l v chars tog v0 v1 r0 r1 hlegal hwait hparse hstate hfresh id reading sampled
  have hgas : (s.node id).service = .gas := Service.kind_eq_gas hwait.kind
  have hon : (s.node id).state ≠ .off := by rcases hstate with h | h <;> simp [id, h]
  have hheard := s.heard_report l id tog hgas
  obtain ⟨hreport, hzones⟩ := (s.heard l id tog).gasReport_effect id r0 v0 r1 v1
  have hframe := hreport.trans (State.withOutputs_fumeFrame _)
  have htaken : ((s.heard l id tog).node id).service = .gas := by rw [hheard.node]; exact hgas
  have htakes : ∀ g : Slot, g.takes id r0 v0 r1 v1 = true ↔ sampled g := fun g => g.takes_iff id r0 v0 r1 v1
  refine ⟨((s.heard l id tog).gasReport id r0 v0 r1 v1).withOutputs, ?runs, hheard.ended.fumeFrame hframe,
    hframe.bays.trans hheard.bays, ?site, ?node, ?mark, ?others, fun z hz => ⟨_, hheard.zones z, ?_, fun hsome => ?_⟩⟩
  case runs => rw [exec_validReply_report hwait hparse hon, s.judgeReport_gas l id tog r0 v0 r1 v1 hstate hfresh]
  case site => rw [hframe.sitePending]; exact hheard.site
  case node => rw [← hheard.node]; exact (hframe.nodes id).eq_of_gas htaken
  case mark =>
    intro hsilent
    refine hframe.marks id ?_
    rw [hheard.node]
    simp [Node.taken, hsilent]
  case others =>
    intro j hj hne
    rw [← hheard.others j (NodeId.key_ne hj (hwait.nodeExists hlegal) hne)]
    exact hframe.nodes j
  · exact fun hno => (hzones z hz).1 fun g hg ht => hno g hg ((htakes g).mp ht)
  · obtain ⟨g, hg, ht⟩ := hsome
    have hsome : ∃ g ∈ ((s.heard l id tog).zone z).slots, g.takes id r0 v0 r1 v1 = true := ⟨g, hg, (htakes g).mpr ht⟩
    have h := Zone.gasReported_spec hsome ((hzones z hz).2 hsome)
    refine ⟨?slots, h.blind, ?bound, ?attained, ?smoothed, h.band, h.isIn_bandUp, h.isIn_bandDown, h.isIn_blind,
      h.isIn_sighted, h.figures, h.seq⟩
    case slots => exact h.slots.trans (List.map_congr_left fun g _ => g.sample_eq _ id r0 v0 r1 v1)
    case bound => exact fun g hg hf => h.I ▸ le_indexOf _ g hg hf
    case attained => exact h.I ▸ indexOf_attained _ h.sampled
    case smoothed => exact h.S.trans (smoothed_eq _ _ _ _)

end Sys2Proof.Machine
end

section
/-! SUPPORT. The selection of a bay: the cheapest candidate zone (R141, R142), the lowest offered bay of a class in a zone
(R143), and the count of acceptable bays read from the bay records (R17, R140). -/

namespace Sys2Proof.Machine

/-! ## The cheapest zone -/

theorem cheapest_eq_none {cost : Nat → Nat} {l : List Nat} : cheapest cost l = none ↔ l = [] := by
  cases l with
  | nil => simp [cheapest]
  | cons z zs =>
    simp only [cheapest]
    split
    · simp
    · split <;> simp

theorem cheapest_mem {cost : Nat → Nat} {l : List Nat} {y : Nat} (h : cheapest cost l = some y) : y ∈ l := by
  induction l generalizing y with
  | nil => simp [cheapest] at h
  | cons z zs ih =>
    simp only [cheapest] at h
    split at h
    · simp_all
    next x hx =>
      split at h
      · simp_all
      · exact List.mem_cons_of_mem z (ih (hx.trans h))

/-- On a rising list the zone taken is the lowest among those of lowest cost. -/
theorem cheapest_least {cost : Nat → Nat} {l : List Nat} {y : Nat} (hl : l.Pairwise (· < ·))
    (h : cheapest cost l = some y) :
    ∀ z ∈ l, cost y < cost z ∨ (cost y = cost z ∧ y ≤ z) := by
  induction l generalizing y with
  | nil => simp
  | cons z zs ih =>
    obtain ⟨hz, hzs⟩ := List.pairwise_cons.mp hl
    simp only [cheapest] at h
    split at h
    next hnone =>
      obtain rfl := Option.some.inj h
      simp [cheapest_eq_none.mp hnone]
    next x hx =>
      have hleast := ih hzs hx
      split at h
      next hle =>
        obtain rfl := Option.some.inj h
        refine List.forall_mem_cons.mpr ⟨.inr ⟨rfl, Nat.le_refl _⟩, fun w hw => ?_⟩
        have := hz w hw
        have := hleast w hw
        omega
      next hlt =>
        obtain rfl := Option.some.inj h
        exact List.forall_mem_cons.mpr ⟨.inl (Nat.lt_of_not_le hlt), hleast⟩

/-- The conditions of R141 on a zone number. -/
def State.Candidate (s : State) (e : Nat) (c : BayClass) (z : Nat) : Prop :=
  z < 32 ∧ (s.zone z).inUse = true ∧ (s.zone z).shed = false ∧ s.route e z ≠ 255 ∧ 1 ≤ acceptable c (s.zone z).tallies

theorem State.mem_candidates (s : State) (e : Nat) (c : BayClass) (z : Nat) :
    z ∈ zoneNumbers.filter (s.isCandidate e c) ↔ s.Candidate e c z := by
  simp only [State.Candidate, State.isCandidate, zoneNumbers, List.mem_filter, List.mem_range, Bool.and_eq_true,
    Bool.not_eq_true', decide_eq_true_eq, and_assoc]
  exact Iff.rfl

theorem State.chooseZone_none {s : State} {e : Nat} {c : BayClass} (h : s.chooseZone e c = none) (z : Nat) :
    ¬ s.Candidate e c z := by
  rw [← s.mem_candidates, cheapest_eq_none.mp h]
  exact List.not_mem_nil

theorem State.chooseZone_some {s : State} {e : Nat} {c : BayClass} {y : Nat} (h : s.chooseZone e c = some y) :
    s.Candidate e c y ∧ ∀ z, s.Candidate e c z → s.costOf e y < s.costOf e z ∨ (s.costOf e y = s.costOf e z ∧ y ≤ z) :=
  ⟨(s.mem_candidates e c y).mp (cheapest_mem h),
    fun z hz => cheapest_least (List.pairwise_lt_range.filter _) h z ((s.mem_candidates e c z).mpr hz)⟩

/-! ## The lowest offered bay -/

theorem BayClass.offerable_iff {k : BayClass} : k.offerable = true ↔ k ≠ .staff ∧ k ≠ .retired := by cases k <;> decide

theorem Bay.offeredIn_offerable {b : Bay} {x : Zone} (h : b.offeredIn x = true) : b.cls.offerable = true := by
  simp_all [Bay.offeredIn]

/-- A number without a listed record reads as a RETIRED bay, which is not offered. -/
theorem State.mem_bays_of_offered {s : State} {b : Nat} (h : s.offered (s.bay b) = true) : (b, s.bay b) ∈ s.bays := by
  rcases Table.get_cases Bay.powerOn s.bays b with hget | hmem
  · have hoff := Bay.offeredIn_offerable h
    rw [State.bay, hget] at hoff
    exact absurd hoff (by decide)
  · exact hmem

theorem State.Legal.baysWf {s : State} (h : s.Legal) : Table.wf Bay.powerOn Config.bayCount s.bays = true := by
  have := h.tables
  simp_all [State.tablesWf]

theorem find?_least {p : Nat → Bool} {l : List Nat} {b : Nat} (hl : l.Pairwise (· < ·)) (h : l.find? p = some b) :
    ∀ i ∈ l, i < b → p i = false := by
  obtain ⟨-, before, after, rfl, hbefore⟩ := List.find?_eq_some_iff_append.mp h
  intro i hi hib
  rcases List.mem_append.mp hi with hi | hi
  · simpa using hbefore i hi
  · obtain ⟨-, hrest, -⟩ := List.pairwise_append.mp hl
    rcases List.mem_cons.mp hi with rfl | hi
    · exact absurd hib (Nat.lt_irrefl _)
    · exact absurd hib (Nat.lt_asymm (List.rel_of_pairwise_cons hrest hi))

/-- Bay `b` is an offered bay of class `c` in zone `z`. -/
def State.Offers (s : State) (c : BayClass) (z b : Nat) : Prop :=
  (s.bay b).zone = z ∧ (s.bay b).cls = c ∧ s.offered (s.bay b) = true

theorem State.lowestOffered_none {s : State} {c : BayClass} {z : Nat} (h : s.lowestOffered c z = none) (b : Nat) :
    ¬ s.Offers c z b := by
  rintro ⟨hz, hc, ho⟩
  have := List.find?_eq_none.mp h b (List.mem_map_of_mem (State.mem_bays_of_offered ho))
  simp_all

theorem State.lowestOffered_some {s : State} {c : BayClass} {z b : Nat} (hs : s.Legal) (h : s.lowestOffered c z = some b) :
    s.Offers c z b ∧ ∀ i, i < b → ¬ s.Offers c z i := by
  have hb := List.find?_some h
  have hsorted : (Table.keys s.bays).Pairwise (· < ·) :=
    List.pairwise_map.mpr ((Table.wf_iff Bay.powerOn Config.bayCount s.bays).mp hs.baysWf).1
  refine ⟨by simpa [State.Offers, and_assoc] using hb, fun i hi ⟨hz, hc, ho⟩ => ?_⟩
  have := find?_least hsorted h i (List.mem_map_of_mem (State.mem_bays_of_offered ho)) hi
  simp_all

/-! ## The count of acceptable bays -/

/-- Whether the class of a bay is one that a request for class `c` accepts (R140). -/
def Bay.suits (b : Bay) (c : BayClass) : Bool := decide (b.cls = c) || (decide (c = .standard) && decide (b.cls = .compact))

theorem countIf_eq (n : Nat) (b : Bool) : countIf n b = n + if b then 1 else 0 := by cases b <;> rfl

theorem acceptable_add {b : Bay} {o : Bool} (h : o = true → b.cls.offerable = true) (c : BayClass) (t : Tallies) :
    acceptable c (t.add b o) = acceptable c t + if o && b.suits c then 1 else 0 := by
  cases c with
  | standard =>
    by_cases hb : b.cls = .standard
    · simp [acceptable, Tallies.add, countIf_eq, Bay.suits, hb]
      omega
    · simp [acceptable, Tallies.add, countIf_eq, Bay.suits, hb, Nat.add_assoc]
  | compact | accessible | charging => simp [acceptable, Tallies.add, countIf_eq, Bay.suits]
  | staff | retired =>
    have hcls := fun ho => BayClass.offerable_iff.mp (h ho)
    simp_all [acceptable, Bay.suits]

/-- Whether a bay with zone record `x` is one of the acceptable bays of zone number `z` (R140). -/
def Bay.acceptedIn (b : Bay) (x : Zone) (z : Nat) (c : BayClass) : Bool := b.countsIn z && (b.offeredIn x && b.suits c)

theorem acceptable_foldl (x : Zone) (z : Nat) (c : BayClass) (l : Table Bay) (t : Tallies) :
    acceptable c (l.foldl (fun t e => if e.2.countsIn z then t.add e.2 (e.2.offeredIn x) else t) t)
      = acceptable c t + l.countP fun e => e.2.acceptedIn x z c := by
  induction l generalizing t with
  | nil => simp
  | cons e l ih =>
    rw [List.foldl_cons, ih, List.countP_cons]
    by_cases he : e.2.countsIn z = true
    · simp only [he, if_true, acceptable_add Bay.offeredIn_offerable, Bay.acceptedIn, Bool.true_and]
      omega
    · simp [Bay.acceptedIn, he]

theorem State.acceptable_tallyOf (s : State) (c : BayClass) (z : Nat) :
    acceptable c (s.tallyOf z) = s.bays.countP fun e => e.2.acceptedIn (s.zone z) z c := by
  have hzero : acceptable c Tallies.zero = 0 := by cases c <;> rfl
  rw [State.tallyOf, acceptable_foldl, hzero, Nat.zero_add]

/-- A legal state's count is at least 1 exactly where some bay number reads as an acceptable bay. -/
theorem State.acceptable_pos_iff {s : State} (hs : s.Legal) (c : BayClass) (z : Nat) :
    1 ≤ acceptable c (s.tallyOf z) ↔ ∃ b, s.Offers c z b ∨ (c = .standard ∧ s.Offers .compact z b) := by
  rw [s.acceptable_tallyOf, Nat.one_le_iff_ne_zero, ← Nat.pos_iff_ne_zero, List.countP_pos_iff]
  constructor
  · rintro ⟨⟨b, x⟩, hmem, hx⟩
    obtain rfl : s.bay b = x := Table.get_of_mem _ _ _ hs.baysWf b x hmem
    simp only [Bay.acceptedIn, Bay.countsIn, Bay.suits, Bool.and_eq_true, Bool.or_eq_true, decide_eq_true_eq] at hx
    obtain ⟨⟨-, rfl⟩, ho, hc⟩ := hx
    exact ⟨b, hc.imp (fun hc => ⟨rfl, hc, ho⟩) fun ⟨hc, hk⟩ => ⟨hc, rfl, hk, ho⟩⟩
  · rintro ⟨b, hb⟩
    obtain ⟨hz, ho⟩ : (s.bay b).zone = z ∧ s.offered (s.bay b) = true := by
      rcases hb with ⟨hz, -, ho⟩ | ⟨-, hz, -, ho⟩ <;> exact ⟨hz, ho⟩
    have hsuits : (s.bay b).suits c = true := by
      rcases hb with ⟨-, hc, -⟩ | ⟨hc, -, hk, -⟩ <;> simp_all [Bay.suits]
    have hserves : (s.bay b).cls ≠ .retired := (BayClass.offerable_iff.mp (Bay.offeredIn_offerable ho)).2
    refine ⟨(b, s.bay b), State.mem_bays_of_offered ho, ?_⟩
    simp_all [Bay.acceptedIn, Bay.countsIn, State.offered]

/-! ## The bay chosen in a zone -/

theorem State.chooseBay_none {s : State} {c : BayClass} {z : Nat} (h : s.chooseBay c z = none) (b : Nat) :
    ¬ (s.Offers c z b ∨ (c = .standard ∧ s.Offers .compact z b)) := by
  unfold State.chooseBay at h
  split at h
  · simp at h
  next hnone =>
    rintro (hb | ⟨rfl, hb⟩)
    · exact State.lowestOffered_none hnone b hb
    · exact State.lowestOffered_none h b hb

/-- The bay chosen is the lowest offered one of its own class in the zone, and that class is the one requested, or COMPACT for
STANDARD where no STANDARD bay is offered (R143). -/
theorem State.chooseBay_some {s : State} {c : BayClass} {z b : Nat} (hs : s.Legal) (h : s.chooseBay c z = some b) :
    ∃ k, (k = c ∨ (c = .standard ∧ k = .compact ∧ ∀ i, ¬ s.Offers .standard z i))
      ∧ s.Offers k z b ∧ ∀ i, i < b → ¬ s.Offers k z i := by
  unfold State.chooseBay at h
  split at h
  next x hx => exact ⟨c, .inl rfl, State.lowestOffered_some hs (hx.trans h)⟩
  next hnone =>
    split at h
    next hc =>
      subst hc
      exact ⟨.compact, .inr ⟨rfl, rfl, State.lowestOffered_none hnone⟩, State.lowestOffered_some hs h⟩
    · simp at h

end Sys2Proof.Machine
end

section
/-! CERTIFICATE. A selection chooses the cheapest candidate zone and its lowest bay. -/

namespace Sys2Proof.Machine

/-- A zone that is a candidate has a bay to choose, since its tallies agree with the bay records. -/
theorem State.Candidate.chooseBay_ne_none {s : State} {e : Nat} {c : BayClass} {z : Nat} (h : s.Candidate e c z)
    (hs : s.Legal) (ht : s.TalliesAgree) : s.chooseBay c z ≠ none := by
  obtain ⟨hz, -, -, -, hcount⟩ := h
  rw [ht z hz] at hcount
  obtain ⟨b, hb⟩ := (State.acceptable_pos_iff hs c z).mp hcount
  exact fun hnone => State.chooseBay_none hnone b hb

theorem State.selection_none {s : State} {e : Nat} {c : BayClass} (hs : s.Legal) (ht : s.TalliesAgree)
    (h : s.selection e c = none) (z : Nat) : ¬ s.Candidate e c z := by
  unfold State.selection at h
  split at h
  next y hy => exact absurd h ((State.chooseZone_some hy).1.chooseBay_ne_none hs ht)
  next hnone => exact State.chooseZone_none hnone z

theorem State.selection_some {s : State} {e : Nat} {c : BayClass} {b : Nat} (h : s.selection e c = some b) :
    ∃ z, s.chooseZone e c = some z ∧ s.chooseBay c z = some b := by
  unfold State.selection at h
  split at h
  next z hz => exact ⟨z, hz, h⟩
  · simp at h

/-- Settles O24. The zone is the one `cheapest` takes among the candidates, and a candidate has an acceptable bay because the
tallies agree with the bay records. -/
theorem selectionChoosesTheCheapestZone : Obligations.SelectionChoosesTheCheapestZone := by
  intro s e c hs ht candidate cost
  refine ⟨State.selection_none hs ht, fun b h => ?_⟩
  obtain ⟨z, hzone, hbay⟩ := State.selection_some h
  obtain ⟨hcand, hleast⟩ := State.chooseZone_some hzone
  obtain ⟨k, hk, ⟨rfl, rfl, ho⟩, hlow⟩ := State.chooseBay_some hs hbay
  have hnot : ∀ {k z i}, ¬ s.Offers k z i → (s.bay i).zone = z → (s.bay i).cls = k → s.offered (s.bay i) = false :=
    fun hi hz hc => Bool.eq_false_iff.mpr fun hoff => hi ⟨hz, hc, hoff⟩
  refine ⟨hcand, hleast, ho, ?cls, fun i hi => hnot (hlow i hi)⟩
  case cls => exact hk.imp_right fun ⟨hc, hcompact, hnone⟩ => ⟨hc, hcompact, fun i => hnot (hnone i)⟩

end Sys2Proof.Machine
end

section
/-! SUPPORT. A request taken by a ready part, and the pending sets as EVENTS_TAKE and EVENTS_SUMMARY read and write them (R174,
R175, R180, R181). -/

namespace Sys2Proof.Machine

/-! ## A request taken by a ready part -/

section
variable {s : State} {c : Instr} {code : Nat} {params : List Byte} {owner : State → State × OwnerAnswer}

/-- A ready part hands the request to its owner and places the owner's answer (R180, R181). -/
theorem request_ready (hc : c.request = some (code, params)) (h : s.Ready) :
    request c s owner
      = .next ((owner s).1.answered (5 + params.length) code (owner s).2.reason (owner s).2.payload) := by
  simp only [request, hc, s.transaction_ready h]

/-- Where the owner leaves the state as it is, a ready part with exact pins is changed by its answer only (R181). -/
theorem request_ready_unchanged (hc : c.request = some (code, params)) (h : s.Ready) (ho : s.OutputsExact)
    {a : OwnerAnswer} (hs : owner s = (s, a)) :
    request c s owner = .next (s.onlyAnswered (5 + params.length) code a.reason a.payload) := by
  rw [request_ready hc h, hs, State.answered_of_exact ho]

end

/-! ## Pending sets -/

/-- A set holds only kinds of pending set `n` when it holds none of the others (R171). -/
theorem onlyKindsOf_kindsOf (n : Nat) (m : EventSet) :
    onlyKindsOf (kindsOf n) m = true ↔ m &&& (if n < 32 then 0xF800#16 else 0x01FF#16) = 0#16 := by
  have hother : ~~~(kindsOf n) = if n < 32 then 0xF800#16 else 0x01FF#16 := by
    unfold kindsOf
    split
    next h => exact (if_pos h).symm
    next h => exact (if_neg h).symm
  rw [onlyKindsOf, decide_eq_true_eq, hother]

/-- Clearing members of a zone's set writes that zone's record (R174). -/
theorem State.clearMembers_zone (s : State) {n : Nat} (m : EventSet) (h : n < 32) :
    s.clearMembers n m = s.setZone n { s.zone n with pending := (s.zone n).pending &&& ~~~m } := if_pos h

/-- Clearing members of SITE's set writes that set (R174). -/
theorem State.clearMembers_site (s : State) (m : EventSet) :
    s.clearMembers 32 m = { s with sitePending := s.sitePending &&& ~~~m } := rfl

theorem State.mem_nonEmptySets (s : State) (n : Nat) : n ∈ s.nonEmptySets ↔ n ≤ 32 ∧ s.membersOf n ≠ 0#16 := by
  rw [State.nonEmptySets, List.mem_filter, List.mem_range, decide_eq_true_eq, Nat.lt_succ_iff]

theorem State.nonEmptySets_rising (s : State) : s.nonEmptySets.Pairwise (· < ·) := List.pairwise_lt_range.filter _

end Sys2Proof.Machine
end

section
/-! CERTIFICATE. EVENTS_TAKE reads and clears one set and EVENTS_SUMMARY lists the non-empty sets. -/

namespace Sys2Proof.Machine

section
variable {s : State} {m : EventSet} {n : Nat}

/-- EVENTS_TAKE of a number above 32, or with kinds of other sets, is refused with RANGE (R174). -/
theorem exec_eventsTake_refused (h : s.Ready) (ho : s.OutputsExact) (hbad : ¬ (n ≤ 32 ∧ onlyKindsOf (kindsOf n) m = true)) :
    exec (.eventsTake n m) s = .next (s.onlyAnswered 8 31 .range []) :=
  request_ready_unchanged (c := .eventsTake n m) rfl h ho (a := (refuse s .range).2)
    (if_neg (by simpa using hbad))

/-- EVENTS_TAKE of a set with kinds of that set answers its members as they were and clears those named (R174). -/
theorem exec_eventsTake_taken (h : s.Ready) (hn : n ≤ 32) (hm : onlyKindsOf (kindsOf n) m = true) :
    exec (.eventsTake n m) s
      = .next ((s.clearMembers n m).answered 8 31 .done (u8 n :: maskBytes (s.membersOf n))) := by
  refine (request_ready (c := .eventsTake n m) rfl h).trans ?_
  rw [if_pos (by simp [hn, hm])]
  rfl

/-- EVENTS_SUMMARY answers the count and the numbers of the non-empty sets (R175). -/
theorem exec_eventsSummary (h : s.Ready) (ho : s.OutputsExact) :
    exec .eventsSummary s
      = .next (s.onlyAnswered 5 32 .done (u8 s.nonEmptySets.length :: s.nonEmptySets.map u8)) :=
  request_ready_unchanged (c := .eventsSummary) rfl h ho (a := (done s _).2) rfl

end

/-- Settles O57. EVENTS_TAKE writes one zone record or SITE's set, by whether its number is below 32, and the pins are derived
again; EVENTS_SUMMARY filters the rising set numbers. -/
theorem eventRequestsReadAndClear : Obligations.EventRequestsReadAndClear := by
  intro s m hready hexact members mine answer
  have hkinds : ∀ n, onlyKindsOf (kindsOf n) m = true ↔ mine n := fun n => onlyKindsOf_kindsOf n m
  refine ⟨fun n hbad => ?refused, fun n hn hmine => ?zone, fun hmine => ?site, s.nonEmptySets, ?summary⟩
  case refused => exact exec_eventsTake_refused hready hexact (by rwa [hkinds])
  case zone =>
    refine ⟨_, exec_eventsTake_taken hready (Nat.le_of_lt hn) ((hkinds n).mpr hmine), ?_⟩
    rw [s.clearMembers_zone m hn]
    refine ⟨rfl, State.withOutputs_exact _, ?_, fun z hz => ?_⟩
    · rw [State.answered_zone, State.zone_setZone_self]
    · rw [State.answered_zone, State.zone_setZone, if_neg hz]
  case site =>
    refine ⟨_, exec_eventsTake_taken hready (Nat.le_refl 32) ((hkinds 32).mpr hmine), State.withOutputs_exact _, ?_⟩
    rw [s.clearMembers_site]
    rfl
  case summary => exact ⟨exec_eventsSummary hready hexact, s.nonEmptySets_rising, s.mem_nonEmptySets⟩

end Sys2Proof.Machine
end

section
/-! SUPPORT. What every owner of a request and every event keeps of the host link (the phase, the response, the queue), and the
commands sorted by how they reach the part: one lemma that says what carrying out any command is. -/

namespace Sys2Proof.Machine

/-! ## The host link under the owners' operations -/

/-- The fields of the host link, which no owner and no event of the field writes. -/
structure State.LinkKept (s t : State) : Prop where
  phase : t.phase = s.phase
  ignoring : t.ignoring = s.ignoring
  buffer : t.buffer = s.buffer
  miso : t.miso = s.miso
  pending : t.pending = s.pending

theorem State.LinkKept.refl (s : State) : s.LinkKept s := ⟨rfl, rfl, rfl, rfl, rfl⟩

theorem State.LinkKept.trans {s t u : State} (h : s.LinkKept t) (k : t.LinkKept u) : s.LinkKept u :=
  ⟨k.phase.trans h.phase, k.ignoring.trans h.ignoring, k.buffer.trans h.buffer, k.miso.trans h.miso,
   k.pending.trans h.pending⟩

theorem State.LinkKept.foldl {α : Type} (f : State → α → State) (hf : ∀ (s : State) a, s.LinkKept (f s a)) (l : List α)
    (s : State) : s.LinkKept (l.foldl f s) := by
  induction l generalizing s with
  | nil => exact .refl s
  | cons a l ih => exact (hf s a).trans (ih (f s a))

theorem State.LinkKept.inAnyOrder (f : State → Nat → State) (hf : ∀ (s : State) a, s.LinkKept (f s a)) (l : List Nat)
    (s : State) : s.LinkKept (s.inAnyOrder f l) := by
  obtain ⟨l', n, -, heq⟩ := s.inAnyOrder_eq f l
  rw [heq]
  exact .trans (t := { s with choices := n }) ⟨rfl, rfl, rfl, rfl, rfl⟩ (.foldl f hf l' _)

theorem State.HandOver.linkKept {s t : State} (h : s.HandOver t) : s.LinkKept t :=
  ⟨h.frame.phase, h.frame.ignoring, h.buffer, h.miso, h.frame.pending⟩

theorem State.censusChange_linkKept (s : State) (changes : List (Nat × Bay)) : s.LinkKept (s.censusChange changes) := by
  obtain ⟨hframe, -, hbuffer, hmiso, -⟩ := s.censusChange_frame changes
  exact ⟨hframe.phase, hframe.ignoring, hbuffer, hmiso, hframe.pending⟩

theorem State.putZone_linkKept (s : State) (z : Nat) (x : Zone) : s.LinkKept (s.putZone z x) := by
  have h := s.putZone_zoneFrame z x
  obtain ⟨hbuffer, hmiso⟩ := s.putZone_answer z x
  exact ⟨h.phase, h.ignoring, hbuffer, hmiso, h.pending⟩

theorem State.changeZone_linkKept (s : State) (z : Nat) (x : Zone) : s.LinkKept (s.changeZone z x) := by
  have h := s.changeZone_frame z x
  obtain ⟨hbuffer, hmiso⟩ := s.changeZone_answer z x
  exact ⟨h.phase, h.ignoring, hbuffer, hmiso, h.pending⟩

theorem State.markOutput_linkKept (s : State) (id : NodeId) : s.LinkKept (s.markOutput id) := (s.markOutput_handOver id).linkKept

theorem State.markSignNode_linkKept (s : State) (n : Option NodeId) : s.LinkKept (s.markSignNode n) := by
  unfold State.markSignNode
  split
  · exact s.markOutput_linkKept _
  · exact .refl s

theorem State.darkenRow_linkKept (s : State) (r : Nat) : s.LinkKept (s.darkenRow r) := s.censusChange_linkKept _

theorem State.staleGasNode_linkKept (s : State) (id : NodeId) : s.LinkKept (s.staleGasNode id) :=
  .foldl _ (fun s z => s.changeZone_linkKept z _) _ _

theorem State.silenceFanNode_linkKept (s : State) (id : NodeId) : s.LinkKept (s.silenceFanNode id) := by
  refine .foldl _ (fun s z => ?_) _ _
  split
  · exact s.putZone_linkKept z _
  · exact .refl s

theorem State.abandonAnswer_linkKept (s : State) (id : NodeId) : s.LinkKept (s.abandonAnswer id) := by
  unfold State.abandonAnswer
  split
  · split
    · exact .refl s
    · exact ⟨rfl, rfl, rfl, rfl, rfl⟩
  all_goals exact .refl s

theorem State.barEffects_linkKept (s : State) (id : NodeId) : s.LinkKept (s.barEffects id) := by
  unfold State.barEffects
  split
  · exact s.darkenRow_linkKept _
  · exact s.staleGasNode_linkKept id
  · exact s.abandonAnswer_linkKept id
  all_goals exact .refl s

theorem State.raiseNodeEvent_linkKept (s : State) (id : NodeId) (k : EventKind) : s.LinkKept (s.raiseNodeEvent id k) := by
  rw [State.raiseNodeEvent_eq]
  exact ⟨rfl, rfl, rfl, rfl, rfl⟩

theorem State.raiseSilence_linkKept (s : State) (id : NodeId) : s.LinkKept (s.raiseSilence id) := by
  unfold State.raiseSilence
  split
  · exact ⟨rfl, rfl, rfl, rfl, rfl⟩
  · exact ⟨rfl, rfl, rfl, rfl, rfl⟩
  · exact s.raiseNodeEvent_linkKept id _
  · exact s.raiseNodeEvent_linkKept id _
  · exact s.raiseNodeEvent_linkKept id _
  · exact .refl s

theorem State.goSilent_linkKept (s : State) (id : NodeId) : s.LinkKept (s.goSilent id) := by
  have h : s.LinkKept ((s.setNode id { s.node id with state := .silent }).raiseSilence id) :=
    .trans (t := s.setNode id { s.node id with state := .silent }) ⟨rfl, rfl, rfl, rfl, rfl⟩ (State.raiseSilence_linkKept _ id)
  unfold State.goSilent
  dsimp only
  split
  · exact h.trans (State.silenceFanNode_linkKept _ id)
  · exact h.trans (State.barEffects_linkKept _ id)

theorem State.placeHold_linkKept {s t : State} {b ticket entrance : Nat} (h : s.placeHold b ticket entrance = some t) :
    s.LinkKept t := by
  unfold State.placeHold at h
  split at h
  · cases h
    exact s.censusChange_linkKept _
  · cases h

theorem State.recomputeLights_linkKept (s : State) (k : Nat) : s.LinkKept (s.recomputeLights k) :=
  (s.recomputeLights_handOver k).linkKept

theorem State.setAisleTimer_linkKept (s : State) (id : NodeId) (t : Option Nat) : s.LinkKept (s.setAisleTimer id t) :=
  .trans (t := s.setNode id { s.node id with service := (s.node id).service.withAisleTimer t }) ⟨rfl, rfl, rfl, rfl, rfl⟩
    (State.recomputeLights_linkKept _ _)

theorem State.levelChanged_linkKept (s : State) (z before after : Nat) : s.LinkKept (s.levelChanged z before after) := by
  unfold State.levelChanged
  split
  · exact .refl s
  · exact .foldl _ (fun s k => s.markOutput_linkKept _) _ _

theorem State.setRecords_linkKept (s : State) (bays : Table Bay) (nodes : Table Node) (zones : Table Zone) (edit : Option Edit)
    (sitePending : EventSet) :
    s.LinkKept { s with bays := bays, nodes := nodes, zones := zones, edit := edit, sitePending := sitePending } :=
  ⟨rfl, rfl, rfl, rfl, rfl⟩

theorem State.cleared_linkKept (s : State) : s.LinkKept s.cleared := by
  have hzones : ∀ t : State, t.LinkKept (zoneNumbers.foldl (fun s z => s.putZone z ((s.zone z).cleared (s.tallyOf z))) t) :=
    .foldl _ (fun s z => s.putZone_linkKept z _) _
  have hsigns : ∀ t : State, t.LinkKept (signNumbers.foldl State.recomputeSign t) :=
    fun t => (State.HandOver.foldl State.recomputeSign (fun s i => s.recomputeSign_handOver i) signNumbers t).linkKept
  exact ((((s.setRecords_linkKept (Table.map Bay.powerOn Bay.cleared s.bays) (Table.map Node.powerOn Node.cleared s.nodes)
    s.zones none s.sitePending).trans (hzones _)).trans (hsigns _)).trans (State.allLights_handOver _).linkKept).trans
    (State.setRecords_linkKept _ _ _ (Table.map Zone.powerOn Zone.emptied _) _ 0#16)

theorem State.commit_linkKept (s : State) (e : Edit) : s.LinkKept (s.commit e) :=
  ((s.censusChange_linkKept (s.commitChanges e)).trans (State.lightsOfRows_handOver _ [e.row]).linkKept).trans
    (State.setRecords_linkKept _ _ (Table.map Node.powerOn (Node.reoffered (s.movedBays e)) _) _ none _)

theorem State.withoutNode_linkKept (s : State) (id : NodeId) : s.LinkKept (s.withoutNode id) := by
  have h : s.LinkKept (s.setNode id Node.powerOn) := ⟨rfl, rfl, rfl, rfl, rfl⟩
  unfold State.withoutNode
  dsimp only
  split
  · exact h.trans (State.darkenRow_linkKept _ _)
  all_goals exact h

theorem State.reviewLine_linkKept (s : State) (l : Nat) : s.LinkKept (s.reviewLine l) := by
  unfold State.reviewLine
  split
  · exact .refl s
  · exact ⟨rfl, rfl, rfl, rfl, rfl⟩

theorem State.clearMembers_linkKept (s : State) (n : Nat) (m : EventSet) : s.LinkKept (s.clearMembers n m) := by
  unfold State.clearMembers
  split <;> exact ⟨rfl, rfl, rfl, rfl, rfl⟩

/-! ## Events of the field lines -/

theorem State.takeRequest_linkKept (s : State) (id : NodeId) (e : Nat) (c : BayClass) (ticket : Nat) :
    s.LinkKept (s.takeRequest id e c ticket) := by
  have answer : ∀ (t : State) a, t.LinkKept (t.setAnswer id e a) := fun _ _ => ⟨rfl, rfl, rfl, rfl, rfl⟩
  unfold State.takeRequest
  split
  · exact answer s _
  · split
    · exact answer s _
    · split
      · next t ht => exact (State.placeHold_linkKept ht).trans (answer t _)
      · exact answer s _

theorem State.entryReport_linkKept (s : State) (id : NodeId) (e : Nat) (a : Answer) (ack : Bool)
    (req : Option (BayClass × Nat)) : s.LinkKept (s.entryReport id e a ack req) := by
  unfold State.entryReport
  split
  · exact .refl s
  · split
    · exact s.takeRequest_linkKept id e _ _
    · split
      · exact ⟨rfl, rfl, rfl, rfl, rfl⟩
      · exact .refl s

theorem State.rowReport_linkKept (s : State) (id : NodeId) (r n : Nat) (p : BitVec 16) (m : Bool) :
    s.LinkKept (s.rowReport id r n p m) := by
  refine .inAnyOrder _ (fun s i => ?_) _ _
  split
  · exact s.censusChange_linkKept _
  · unfold State.motionReport
    split
    · exact s.setAisleTimer_linkKept id _
    · exact .refl s

theorem State.fanReport_linkKept (s : State) (id : NodeId) (proof trip : Bool) : s.LinkKept (s.fanReport id proof trip) := by
  refine .foldl _ (fun s z => ?_) _ _
  split
  · exact s.putZone_linkKept z _
  · exact .refl s

theorem State.applyReport_linkKept (s : State) (id : NodeId) (body : Report) : s.LinkKept (s.applyReport id body) := by
  unfold State.applyReport
  split
  · split
    · exact s.rowReport_linkKept id _ _ _ _
    · exact .refl s
  · exact .inAnyOrder _ (fun s z => s.changeZone_linkKept z _) _ _
  · exact s.fanReport_linkKept id _ _
  · split
    · exact s.entryReport_linkKept id _ _ _ _
    · exact .refl s

theorem State.judgeReport_linkKept (s : State) (id : NodeId) (toggle : Bool) (body : Report) :
    s.LinkKept (s.judgeReport id toggle body) := by
  have node : ∀ n, s.LinkKept (s.setNode id n) := fun _ => ⟨rfl, rfl, rfl, rfl, rfl⟩
  unfold State.judgeReport
  dsimp only
  split
  · split
    · exact node _
    · exact (node _).trans (State.applyReport_linkKept _ id body)
  · exact .refl s

theorem State.answeredVisit_linkKept (s : State) (id : NodeId) : s.LinkKept (s.answeredVisit id) := by
  rw [State.answeredVisit_writes]
  exact ⟨rfl, rfl, rfl, rfl, rfl⟩

theorem State.miss_linkKept (s : State) (id : NodeId) (command : Bool) : s.LinkKept (s.miss id command) := by
  have node : ∀ n, s.LinkKept (s.setNode id n) := fun _ => ⟨rfl, rfl, rfl, rfl, rfl⟩
  unfold State.miss
  dsimp only
  split
  · exact .refl s
  · split
    · exact (node _).trans (State.goSilent_linkKept _ id)
    · exact node _

theorem State.replyTo_linkKept (s : State) (id : NodeId) (command : Bool) (chars : List Char9) :
    s.LinkKept (s.replyTo id command chars) := by
  unfold State.replyTo
  split
  · exact .refl s
  · split
    · exact .refl s
    · split
      · unfold State.takeReply
        split
        · exact s.answeredVisit_linkKept id
        · exact (s.answeredVisit_linkKept id).trans (State.judgeReport_linkKept _ id _ _)
      · exact s.miss_linkKept id command

theorem State.concludeVisit_linkKept (s : State) (l : Nat) (effect : State → Visit → State)
    (he : ∀ (s : State) v, s.LinkKept (effect s v)) : s.LinkKept (s.concludeVisit l effect) := by
  have hend : s.LinkKept (s.endVisit l) := ⟨rfl, rfl, rfl, rfl, rfl⟩
  rcases s.concludeVisit_cases l effect with ⟨-, h⟩ | ⟨v, -, ⟨-, h⟩ | ⟨-, h⟩⟩ <;> rw [h]
  · exact .refl s
  · exact hend
  · exact hend.trans (he _ v)

theorem State.missVisit_linkKept (s : State) (l : Nat) : s.LinkKept (s.missVisit l) :=
  s.concludeVisit_linkKept l _ fun s _ => s.miss_linkKept _ _

theorem State.enterFault_linkKept (s : State) (l : Nat) : s.LinkKept (s.enterFault l) := by
  have habandon : ∀ (s : State) v, s.LinkKept (s.abandonVisit l v) := fun s v => by
    unfold State.abandonVisit
    split
    · split
      · exact s.markOutput_linkKept _
      · exact .refl s
    · exact .refl s
  unfold State.enterFault
  dsimp only
  refine .trans (.trans (.trans (t := s.setLine l (s.line l).faulted) ⟨rfl, rfl, rfl, rfl, rfl⟩ (habandon _ (s.line l).visit))
    (u := (((s.setLine l (s.line l).faulted).abandonVisit l (s.line l).visit).raiseSite .lineFault)) ⟨rfl, rfl, rfl, rfl, rfl⟩) ?_
  exact .inAnyOrder _ (fun s k => s.goSilent_linkKept _) _ _

theorem State.relearnLine_linkKept (s : State) (l : Nat) : s.LinkKept (s.relearnLine l) :=
  .foldl (fun (s : State) k => s.setNode (nodeIdOf k) (s.node (nodeIdOf k)).relearned)
    (fun _ _ => ⟨rfl, rfl, rfl, rfl, rfl⟩) _ s

end Sys2Proof.Machine
end

section
/-! SUPPORT. The commands sorted by how they reach the part: one lemma that says what carrying out any command is, with what
every owner and every event keeps. -/

namespace Sys2Proof.Machine

/-! ## What an owner answers -/

/-- An owner's answer to a request in `s`: a refusal leaves the state as it is, and the host link is never written (R181). -/
structure State.Answers (s : State) (a : State × OwnerAnswer) : Prop where
  refusal : a.2.reason ≠ .done → a.1 = s
  link : s.LinkKept a.1

theorem State.answers_refuse (s : State) (r : Reason) : s.Answers (refuse s r) := ⟨fun _ => rfl, .refl s⟩

theorem State.answers_done {s t : State} (h : s.LinkKept t) (p : List Byte) : s.Answers (done t p) :=
  ⟨fun hr => absurd rfl hr, h⟩

theorem State.answers_doneEmpty {s t : State} (h : s.LinkKept t) : s.Answers (t, doneEmpty) := answers_done h []

theorem State.answers_ite {s : State} {p : Prop} [Decidable p] {a b : State × OwnerAnswer} (ha : s.Answers a)
    (hb : s.Answers b) : s.Answers (if p then a else b) := by
  split
  · exact ha
  · exact hb

theorem State.answers_closeBay (s : State) (b : Nat) (f : Bool) : s.Answers (s.closeBay b f) :=
  answers_ite (s.answers_refuse _) <| answers_ite (s.answers_refuse _) <| answers_ite (answers_doneEmpty (.refl s)) <|
    answers_doneEmpty (s.censusChange_linkKept _)

theorem State.answers_shedZone (s : State) (z : Nat) (f : Bool) : s.Answers (s.shedZone z f) :=
  answers_ite (s.answers_refuse _) <| answers_ite (s.answers_refuse _) <| answers_doneEmpty (s.changeZone_linkKept z _)

theorem State.LinkKept.ite {s t : State} {p : Prop} [Decidable p] (h : s.LinkKept t) : s.LinkKept (if p then t else s) := by
  split
  · exact h
  · exact .refl s

/-! ## The commands sorted -/

/-- How command `c` is carried out. -/
inductive CarriedOut (c : Instr) : Prop where
  /-- a host request, handed to its owner (R180) -/
  | request (code : Nat) (params : List Byte) (owner : State → State × OwnerAnswer) (hc : c.request = some (code, params))
      (he : ∀ s : State, exec c s = .next (s.transaction (5 + params.length) code owner))
      (answers : ∀ s : State, s.Answers (owner s))
  /-- an event of the part or its surroundings -/
  | event (effect : State → State) (hc : c.request = none) (he : ∀ s : State, exec c s = event s effect)
      (link : ∀ s : State, s.LinkKept (effect s))
  /-- a read transaction -/
  | read (n : Nat) (hc : c = .read n)
  /-- a transaction that names no request -/
  | malformed (bytes : List Byte) (hc : c = .malformedRequest bytes)
  /-- RESET asserted or released -/
  | reset (hc : c = .resetAssert ∨ c = .resetRelease)
  /-- the end of the start-up time -/
  | startUpEnd (hc : c = .startUpEnd)
  /-- a receive input moved -/
  | input (l : Nat) (b : Bool) (hc : c = .breakLevelChange l b)

open State in
/-- Every command is carried out in one of these ways. -/
theorem carriedOut (c : Instr) : CarriedOut c := by
  have setLine : ∀ (s : State) l x, s.LinkKept (s.setLine l x) := fun _ _ _ => ⟨rfl, rfl, rfl, rfl, rfl⟩
  cases c
  case getBay => exact .request _ _ _ rfl (fun _ => rfl) fun s => answers_ite (answers_done (.refl s) _) (s.answers_refuse _)
  case getRow => exact .request _ _ _ rfl (fun _ => rfl) fun s => answers_ite (answers_done (.refl s) _) (s.answers_refuse _)
  case getZone => exact .request _ _ _ rfl (fun _ => rfl) fun s => answers_ite (answers_done (.refl s) _) (s.answers_refuse _)
  case getRoutes => exact .request _ _ _ rfl (fun _ => rfl) fun s => answers_ite (answers_done (.refl s) _) (s.answers_refuse _)
  case getNode => exact .request _ _ _ rfl (fun _ => rfl) fun s => answers_ite (answers_done (.refl s) _) (s.answers_refuse _)
  case getSign => exact .request _ _ _ rfl (fun _ => rfl) fun s => answers_ite (answers_done (.refl s) _) (s.answers_refuse _)
  case getSite => exact .request _ _ _ rfl (fun _ => rfl) fun s => answers_done (.refl s) _
  case eventsSummary => exact .request _ _ _ rfl (fun _ => rfl) fun s => answers_done (.refl s) _
  case unknownRequest => exact .request _ _ _ rfl (fun _ => rfl) fun s => s.answers_refuse _
  case bayClose => exact .request _ _ _ rfl (fun _ => rfl) fun s => s.answers_closeBay _ _
  case bayOpen => exact .request _ _ _ rfl (fun _ => rfl) fun s => s.answers_closeBay _ _
  case zoneShed => exact .request _ _ _ rfl (fun _ => rfl) fun s => s.answers_shedZone _ _
  case zoneUnshed => exact .request _ _ _ rfl (fun _ => rfl) fun s => s.answers_shedZone _ _
  case holdRelease =>
    exact .request _ _ _ rfl (fun _ => rfl) fun s => answers_ite (s.answers_refuse _) <| answers_ite (s.answers_refuse _) <|
      answers_doneEmpty (s.censusChange_linkKept _)
  case zoneSetInUse =>
    exact .request _ _ _ rfl (fun _ => rfl) fun s =>
      answers_ite (answers_doneEmpty ((s.changeZone_linkKept _ _).trans (levelChanged_linkKept _ _ _ _))) (s.answers_refuse _)
  case zoneSetFree =>
    exact .request _ _ _ rfl (fun _ => rfl) fun s => answers_ite (s.answers_refuse _) <| answers_ite (s.answers_refuse _) <|
      answers_doneEmpty ((s.changeZone_linkKept _ _).trans (levelChanged_linkKept _ _ _ _))
  case routeSet =>
    exact .request _ _ _ rfl (fun _ => rfl) fun s =>
      answers_ite (answers_doneEmpty ⟨rfl, rfl, rfl, rfl, rfl⟩) (s.answers_refuse _)
  case siteSet site =>
    exact .request _ _ _ rfl (fun _ => rfl) fun s => answers_ite (answers_doneEmpty
      (.trans (t := { s with site := saturatedSite site }) ⟨rfl, rfl, rfl, rfl, rfl⟩ (allLights_handOver _).linkKept))
      (s.answers_refuse _)
  case editOpen =>
    refine .request _ _ _ rfl (fun _ => rfl) fun s => answers_ite (s.answers_refuse _) ?_
    split
    · exact s.answers_refuse _
    · refine answers_done ?_ _
      exact ⟨rfl, rfl, rfl, rfl, rfl⟩
  case editPut =>
    refine .request _ _ _ rfl (fun _ => rfl) fun s => ?_
    split
    · exact s.answers_refuse _
    · refine answers_ite (s.answers_refuse _) ?_
      split
      · exact s.answers_refuse _
      · refine answers_ite (answers_done ?_ _) (s.answers_refuse _)
        exact ⟨rfl, rfl, rfl, rfl, rfl⟩
  case editCommit =>
    refine .request _ _ _ rfl (fun _ => rfl) fun s => ?_
    split
    · exact s.answers_refuse _
    · split
      · exact ⟨fun _ => rfl, .refl s⟩
      · exact answers_done (s.commit_linkKept _) _
  case editDrop =>
    refine .request _ _ _ rfl (fun _ => rfl) fun s => ?_
    split
    · exact s.answers_refuse _
    · exact answers_doneEmpty ⟨rfl, rfl, rfl, rfl, rfl⟩
  case nodeBind =>
    refine .request _ _ _ rfl (fun _ => rfl) fun s => answers_ite (s.answers_refuse _) ?_
    split
    · exact s.answers_refuse _
    · exact answers_ite (s.answers_refuse _) (answers_doneEmpty ⟨rfl, rfl, rfl, rfl, rfl⟩)
  case nodeRetire =>
    exact .request _ _ _ rfl (fun _ => rfl) fun s => answers_ite (s.answers_refuse _) <| answers_ite (s.answers_refuse _) <|
      answers_doneEmpty (((s.withoutNode_linkKept _).trans (setLine _ _ _)).trans (reviewLine_linkKept _ _))
  case nodeBar line address =>
    exact .request _ _ _ rfl (fun _ => rfl) fun s => answers_ite (s.answers_refuse _) <| answers_ite (s.answers_refuse _) <|
      answers_ite (answers_doneEmpty (.refl s)) <| answers_doneEmpty
        (.trans (t := s.setNode ⟨line, address⟩ _) ⟨rfl, rfl, rfl, rfl, rfl⟩ (barEffects_linkKept _ _))
  case nodeUnbar =>
    exact .request _ _ _ rfl (fun _ => rfl) fun s => answers_ite (s.answers_refuse _) <| answers_ite (s.answers_refuse _) <|
      answers_doneEmpty ⟨rfl, rfl, rfl, rfl, rfl⟩
  case zoneSlotBind =>
    exact .request _ _ _ rfl (fun _ => rfl) fun s => answers_ite (s.answers_refuse _) <| answers_ite (s.answers_refuse _) <|
      answers_ite (s.answers_refuse _) <| answers_ite (s.answers_refuse _) <| answers_ite (s.answers_refuse _) <|
        answers_done (s.changeZone_linkKept _ _) _
  case zoneSlotUnbind =>
    exact .request _ _ _ rfl (fun _ => rfl) fun s => answers_ite (s.answers_refuse _) <| answers_ite (s.answers_refuse _) <|
      answers_doneEmpty (s.changeZone_linkKept _ _)
  case zoneStageBind =>
    exact .request _ _ _ rfl (fun _ => rfl) fun s => answers_ite (s.answers_refuse _) <| answers_ite (s.answers_refuse _) <|
      answers_ite (s.answers_refuse _) <| answers_ite (s.answers_refuse _) <| answers_ite (s.answers_refuse _) <|
        answers_ite (s.answers_refuse _) <|
          answers_done ((s.changeZone_linkKept _ _).trans (markOutput_linkKept _ _)) _
  case zoneStageUnbind =>
    exact .request _ _ _ rfl (fun _ => rfl) fun s => answers_ite (s.answers_refuse _) <| answers_ite (s.answers_refuse _) <|
      answers_doneEmpty (s.changeZone_linkKept _ _)
  case zoneFloor =>
    exact .request _ _ _ rfl (fun _ => rfl) fun s => answers_ite (s.answers_refuse _) <| answers_ite (s.answers_refuse _) <|
      answers_doneEmpty (s.putZone_linkKept _ _)
  case fanReset =>
    exact .request _ _ _ rfl (fun _ => rfl) fun s => answers_ite (s.answers_refuse _) <| answers_ite (s.answers_refuse _) <|
      answers_ite (s.answers_refuse _) <| answers_doneEmpty (s.putZone_linkKept _ _)
  case holdPlaceByBay =>
    refine .request _ _ _ rfl (fun _ => rfl) fun s => answers_ite (s.answers_refuse _) ?_
    split
    · next h => exact answers_done (placeHold_linkKept h) _
    · exact s.answers_refuse _
  case holdPlaceBest =>
    refine .request _ _ _ rfl (fun _ => rfl) fun s => ?_
    split
    · exact s.answers_refuse _
    · refine answers_ite (s.answers_refuse _) ?_
      split
      · exact s.answers_refuse _
      · split
        · next h => exact answers_done (placeHold_linkKept h) _
        · exact s.answers_refuse _
  case signSet i line address mode zones filter text =>
    refine .request _ _ _ rfl (fun _ => rfl) fun s => ?_
    split
    · refine answers_ite (s.answers_refuse _) <| answers_ite (s.answers_refuse _) <| answers_ite (s.answers_refuse _) <|
        answers_ite (s.answers_refuse _) <| answers_done ?_ _
      exact .trans (.trans (t := s.setSign i _) ⟨rfl, rfl, rfl, rfl, rfl⟩ (markSignNode_linkKept _ _)) (markSignNode_linkKept _ _)
    all_goals exact s.answers_refuse _
  case eventsTake =>
    exact .request _ _ _ rfl (fun _ => rfl) fun s =>
      answers_ite (answers_done (s.clearMembers_linkKept _ _) _) (s.answers_refuse _)
  case clear => exact .request _ _ _ rfl (fun _ => rfl) fun s => answers_doneEmpty s.cleared_linkKept
  case read n => exact .read n rfl
  case resetAssert => exact .reset (.inl rfl)
  case resetRelease => exact .reset (.inr rfl)
  case startUpEnd => exact .startUpEnd rfl
  case breakLevelChange l b => exact .input l b rfl
  case malformedRequest bytes => exact .malformed bytes rfl
  case settleTimerExpiry =>
    exact .event _ rfl (fun _ => rfl) fun s => .ite (s.censusChange_linkKept _)
  case departTimerExpiry =>
    exact .event _ rfl (fun _ => rfl) fun s => .ite (s.censusChange_linkKept _)
  case holdTimerExpiry =>
    exact .event _ rfl (fun _ => rfl) fun s => .ite ((s.censusChange_linkKept _).trans ⟨rfl, rfl, rfl, rfl, rfl⟩)
  case windowTimerExpiry =>
    refine .event _ rfl (fun _ => rfl) fun s => ?_
    split
    · split
      · exact ⟨rfl, rfl, rfl, rfl, rfl⟩
      · exact .refl s
    · exact .refl s
  case ageTimerExpiry =>
    exact .event _ rfl (fun _ => rfl) fun s => .ite (s.changeZone_linkKept _ _)
  case proofTimerExpiry =>
    exact .event _ rfl (fun _ => rfl) fun s => .ite (s.putZone_linkKept _ _)
  case rundownTimerExpiry =>
    exact .event _ rfl (fun _ => rfl) fun s => .ite (s.putZone_linkKept _ _)
  case dwellTimerExpiry =>
    exact .event _ rfl (fun _ => rfl) fun s => .ite (s.putZone_linkKept _ _)
  case aisleTimerExpiry =>
    exact .event _ rfl (fun _ => rfl) fun s => .ite (s.setAisleTimer_linkKept _ _)
  case probeTimerExpiry =>
    exact .event _ rfl (fun _ => rfl) fun s => .ite (setLine s _ _)
  case probeWatchEnd =>
    refine .event _ rfl (fun _ => rfl) fun s => ?_
    dsimp only
    split
    · split
      · exact ((setLine s _ _).trans (relearnLine_linkKept _ _)).trans ⟨rfl, rfl, rfl, rfl, rfl⟩
      · exact setLine s _ _
    · exact .refl s
  case visitStart =>
    refine .event _ rfl (fun _ => rfl) fun s => ?_
    split
    · split
      · exact ⟨rfl, rfl, rfl, rfl, rfl⟩
      · exact .refl s
    · exact .refl s
  case validReply =>
    exact .event _ rfl (fun _ => rfl) fun s => s.concludeVisit_linkKept _ _ fun s _ => s.replyTo_linkKept _ _ _
  case replyWindowClose => exact .event _ rfl (fun _ => rfl) fun s => s.missVisit_linkKept _
  case badReply => exact .event _ rfl (fun _ => rfl) fun s => s.missVisit_linkKept _
  case breakDetected =>
    exact .event _ rfl (fun _ => rfl) fun s => .ite (s.enterFault_linkKept _)
  case tick => exact .event _ rfl (fun _ => rfl) fun _ => ⟨rfl, rfl, rfl, rfl, rfl⟩
  case frameSent =>
    exact .event _ rfl (fun _ => rfl) fun s => .ite (setLine s _ _)

end Sys2Proof.Machine
end

section
/-! CERTIFICATE. The machine as a whole: the step, the completion of every command, RESET, the start-up and the pins. -/

namespace Sys2Proof.Machine

/-- Settles O1. The step takes the queue apart. -/
theorem stepRunsFrontCommand : Obligations.StepRunsFrontCommand := by
  refine ⟨fun c cs s => rfl, fun s hs => ?_⟩
  rw [step, hs]

/-! ## What every command leaves of the queue -/

theorem State.transaction_pending (s : State) (n code : Nat) (owner : State → State × OwnerAnswer)
    (h : (owner s).1.pending = s.pending) : (s.transaction n code owner).pending = s.pending := by
  rcases s.transaction_cases n code owner with heq | heq | ⟨r, -, heq⟩ | ⟨-, heq⟩ <;> rw [heq]
  · rfl
  · exact h

theorem State.readTransaction_pending (s : State) (n : Nat) : (s.readTransaction n).pending = s.pending := by
  unfold State.readTransaction
  split
  · rfl
  · rcases s.serve_cases fun s => (s.readOut n).withOutputs with ⟨-, heq⟩ | ⟨-, -, heq⟩ | ⟨-, -, heq⟩ <;> rw [heq]
    rw [State.withOutputs_pending, State.readOut]
    split <;> rfl

theorem exec_pending (c : Instr) (s : State) : ∃ t, exec c s = .next t ∧ t.pending = s.pending := by
  cases carriedOut c with
  | request code params owner hc he answers =>
    exact ⟨_, he s, s.transaction_pending _ _ _ (answers s).link.pending⟩
  | event effect hc he link =>
    refine ⟨_, (he s).trans (event_eq s effect), ?_⟩
    split
    · rfl
    · exact (link s).pending
  | read n hc => exact hc ▸ ⟨_, rfl, s.readTransaction_pending n⟩
  | malformed bytes hc =>
    subst hc
    cases bytes with
    | nil => exact ⟨s, rfl, rfl⟩
    | cons b rest =>
      by_cases hb : b = readByte
      · exact ⟨_, if_pos hb, s.readTransaction_pending _⟩
      · exact ⟨_, if_neg hb, s.transaction_pending _ _ _ rfl⟩
  | reset hc => rcases hc with rfl | rfl <;> exact ⟨_, rfl, rfl⟩
  | startUpEnd hc =>
    subst hc
    by_cases hp : s.phase = .startUp
    · exact ⟨_, if_pos hp, rfl⟩
    · exact ⟨_, if_neg hp, rfl⟩
  | input l b hc =>
    subst hc
    by_cases hl : l < Config.lineCount
    · exact ⟨_, if_pos hl, rfl⟩
    · exact ⟨_, if_neg hl, rfl⟩

/-- Settles O2, by how each command is carried out. -/
theorem everyCommandCompletes : Obligations.EveryCommandCompletes := exec_pending

/-! ## RESET -/

/-- Of a line record RESET keeps the receive input alone (R185; log entry 7). -/
theorem State.poweredOn_line (s : State) (phase : Phase) (l : Nat) :
    (s.poweredOn phase).line l = { Line.powerOn with rxBreak := ((s.poweredOn phase).line l).rxBreak } := by
  rcases Table.get_cases Line.powerOn (s.poweredOn phase).lines l with h | h
  · rw [State.line, h]
  · obtain ⟨x, -, hx⟩ := List.mem_map.mp (List.mem_filter.mp h).1
    injection hx with _ hx
    rw [State.line, ← hx]
    rfl

/-- Settles O3. Every table but that of the lines is empty, and a number that is not listed reads as its power-on record. -/
theorem powerOnRecords : Obligations.PowerOnRecords := by
  intro s
  refine ⟨s.poweredOn .held, s.poweredOn .startUp, rfl, rfl, rfl, rfl, rfl, fun x hx => ?_⟩
  have hline : ∀ l, x.line l = { Line.powerOn with rxBreak := (x.line l).rxBreak } := by
    rcases List.mem_cons.mp hx with rfl | hx
    · exact s.poweredOn_line .held
    rcases List.mem_cons.mp hx with rfl | hx
    · exact s.poweredOn_line .startUp
    · rw [List.mem_singleton.mp hx]
      exact fun _ => rfl
  simp only [List.mem_cons, List.not_mem_nil, or_false] at hx
  rcases hx with rfl | rfl | rfl <;>
    exact ⟨rfl, rfl, fun _ => rfl, fun _ => rfl, fun _ _ => rfl, rfl, rfl, rfl, hline, fun _ => rfl, fun _ => rfl, rfl, rfl, rfl⟩

theorem State.poweredOn_heldAtPowerOn (s : State) (phase : Phase) : (s.poweredOn phase).HeldAtPowerOn := by
  intro hp
  obtain rfl : phase = .held := hp
  exact ⟨rfl, s.poweredOn_line .held⟩

/-- Settles O5. The state after reset has empty tables. -/
theorem resetIsLegal : Obligations.ResetIsLegal := by
  have hempty : ∀ {α : Type} {P : Nat × α → Prop}, ∀ e ∈ ([] : Table α), P e := fun e he => absurd he (by simp)
  have hzone : Zone.powerOn.SequencerLegal ∧ Zone.powerOn.FiguresExact := by
    unfold Zone.FiguresExact
    decide
  refine ⟨⟨State.reset_tablesWf, hempty, hempty, hempty, by decide, by decide, nofun, hempty, hempty, hempty, nofun⟩,
    by simp [State.OutputsExact, State.reset, State.zone, State.line, Zone.powerOn, Line.powerOn], fun _ _ => rfl, ?signs,
    State.lightsExact_of_listed hempty,
    State.unwatchedDark_of_dark hempty, fun _ _ => hzone.1, fun _ => hzone.2, ?free, ?bindings, ?lines, nofun, ?held⟩
  case signs =>
    intro i _
    have hsign : State.reset.sign i = Sign.powerOn := rfl
    rw [hsign]
    decide
  case free => exact fun z _ _ => ⟨rfl, fun b _ hb => absurd rfl hb, fun i _ => by simp [State.reset, State.sign, Sign.powerOn]⟩
  case bindings =>
    refine ⟨fun _ _ g hg => absurd hg (by simp [State.reset, State.zone, Zone.powerOn]),
      fun _ _ g hg => absurd hg (by simp [State.reset, State.zone, Zone.powerOn]), nofun,
      by decide, by decide, by decide, .nil, .nil⟩
  case lines => exact fun l _ => ⟨iff_of_true rfl fun _ _ _ => rfl, nofun⟩
  case held =>
    intro s t _ ht
    cases ht
    exact ⟨rfl, s.poweredOn_heldAtPowerOn .held⟩

end Sys2Proof.Machine
end

section
/-! CERTIFICATE. The host link: what gates the commands, the pins, requests refused and lost, and the read. -/

namespace Sys2Proof.Machine

/-! ## Requests and transactions -/

theorem exec_request {c : Instr} {code : Nat} {params : List Byte} (h : c.request = some (code, params)) :
    ∃ owner, (∀ s : State, exec c s = .next (s.transaction (5 + params.length) code owner))
      ∧ ∀ s : State, s.Answers (owner s) := by
  cases carriedOut c with
  | request code' params' owner hc he answers =>
    obtain ⟨rfl, rfl⟩ : code' = code ∧ params' = params := by simpa [hc] using h
    exact ⟨owner, he, answers⟩
  | event effect hc => simp [hc] at h
  | read n hc => simp [hc, Instr.request] at h
  | malformed bytes hc => simp [hc, Instr.request] at h
  | reset hc => rcases hc with rfl | rfl <;> simp [Instr.request] at h
  | startUpEnd hc => simp [hc, Instr.request] at h
  | input l b hc => simp [hc, Instr.request] at h

theorem State.serve_ignored {s : State} (hp : s.phase = .running) (hi : s.ignoring = true) (f : State → State) :
    s.serve f = { s with ignoring := false } := by simp [State.serve, hp, hi]

theorem State.serve_not_running {s : State} (hp : s.phase ≠ .running) (f : State → State) : s.serve f = s := by
  unfold State.serve
  split
  · rfl
  · rfl
  · next h => exact absurd h hp

theorem exec_read {s : State} {n : Nat} (hn : 1 ≤ n) :
    exec (.read n) s = .next (s.serve fun s => (s.readOut n).withOutputs) := by
  show Host.Outcome.next (s.readTransaction n) = _
  rw [State.readTransaction, if_neg (by omega)]

theorem exec_malformed_read (s : State) (rest : List Byte) :
    exec (.malformedRequest (0x3C#8 :: rest)) s = exec (.read (1 + rest.length)) s := rfl

theorem exec_malformed {s : State} {b : Byte} (hb : b ≠ 0x3C#8) (rest : List Byte) :
    exec (.malformedRequest (b :: rest)) s
      = .next (s.transaction (1 + rest.length) (byteAt rest 0) fun s => refuse s .frame) := if_neg hb

/-- A transaction that is not served does to the state what the gate alone does (R185). -/
theorem exec_transaction_gated {s : State} {u : State} (hg : ∀ f, s.serve f = u) :
    (∀ (c : Instr) (code : Nat) (params : List Byte), c.request = some (code, params) → exec c s = .next u)
      ∧ (∀ n, 1 ≤ n → exec (.read n) s = .next u) ∧ ∀ bytes, bytes ≠ [] → exec (.malformedRequest bytes) s = .next u := by
  have hread : ∀ n, 1 ≤ n → exec (.read n) s = .next u := fun n hn => by rw [exec_read hn, hg]
  refine ⟨fun c code params h => ?_, hread, fun bytes hne => ?_⟩
  · obtain ⟨owner, he, -⟩ := exec_request h
    rw [he, State.transaction, hg]
  · obtain ⟨b, rest, rfl⟩ := List.exists_cons_of_ne_nil hne
    by_cases hb : b = 0x3C#8
    · rw [hb, exec_malformed_read, hread _ (by omega)]
    · rw [exec_malformed hb, State.transaction, hg]

theorem exec_startUpEnd (s : State) : ∃ begun, exec .startUpEnd s
    = .next (if s.phase = .startUp then { s with phase := .running, ignoring := begun, choices := s.choices + 1 } else s) := by
  refine ⟨Config.transactionBegun s.choices, ?_⟩
  show execStartUpEnd s = _
  unfold execStartUpEnd
  split <;> rfl

/-- Settles O4. -/
theorem startUpAndResetGateTheCommands : Obligations.StartUpAndResetGateTheCommands := by
  intro s
  have hidle : s.phase ≠ .running →
      (∀ (c : Instr) (code : Nat) (params : List Byte), c.request = some (code, params) → exec c s = .next s)
      ∧ (∀ n, exec (.read n) s = .next s) ∧ ∀ bytes, exec (.malformedRequest bytes) s = .next s := fun hp => by
    obtain ⟨hrequest, hread, hbytes⟩ := exec_transaction_gated fun f => State.serve_not_running hp f
    refine ⟨hrequest, fun n => ?_, fun bytes => ?_⟩
    · rcases Nat.eq_zero_or_pos n with rfl | hn
      · rfl
      · exact hread n hn
    · cases bytes with
      | nil => rfl
      | cons b rest => exact hbytes _ nofun
  refine ⟨exec_startUpEnd s, fun hp hi => exec_transaction_gated fun f => State.serve_ignored hp hi f, hidle,
    fun hheld c hassert hrelease hinput => ?_⟩
  obtain ⟨hrequest, hread, hbytes⟩ := hidle (by simp [hheld])
  cases carriedOut c with
  | request code params owner hc => exact hrequest c code params hc
  | event effect hc he => rw [he, event_eq, if_pos hheld]
  | read n hc => exact hc ▸ hread n
  | malformed bytes hc => exact hc ▸ hbytes bytes
  | reset hc => exact (hc.elim hassert hrelease).elim
  | startUpEnd hc =>
    obtain ⟨begun, hend⟩ := exec_startUpEnd s
    rw [hc, hend, if_neg (by simp [hheld])]
  | input l b hc => exact absurd hc (hinput l b)

/-- Settles O17. -/
theorem overrunLosesTheRequest : Obligations.OverrunLosesTheRequest := by
  intro s r hp hi hb
  refine ⟨fun c code params h => ?_, fun b rest hne => ?_⟩
  · obtain ⟨owner, he, -⟩ := exec_request h
    rw [he, s.transaction_held r hp hi hb]
    rfl
  · rw [exec_malformed hne, s.transaction_held r hp hi hb]
    rfl

/-! ## The output pins -/

/-- The pins' rules read these records only. -/
theorem State.OutputsExact.congr {s t : State} (h : s.OutputsExact) (hout : t.out = s.out) (hbuffer : t.buffer = s.buffer)
    (hzones : t.zones = s.zones) (hsite : t.sitePending = s.sitePending) (hlines : t.lines = s.lines) : t.OutputsExact := by
  have hzone : t.zone = s.zone := funext fun z => State.zone_of_zones hzones z
  have hline : t.line = s.line := funext fun l => by rw [State.line, State.line, hlines]
  unfold State.OutputsExact at h ⊢
  rw [hout, hbuffer, hzone, hsite, hline]
  exact h

theorem State.OutputsExact.overrun {s : State} {r : Response} (h : s.OutputsExact) (hb : s.buffer = some r) (n : Nat) :
    (s.overrun n r).OutputsExact := by
  obtain ⟨hr, ha, hp, hf, -⟩ := h
  rw [hb] at hr
  exact ⟨hr.trans (by simp [State.overrun]), ha, hp, hf, rfl⟩

theorem State.OutputsExact.transaction {s : State} (h : s.OutputsExact) (n code : Nat) (owner : State → State × OwnerAnswer) :
    (s.transaction n code owner).OutputsExact := by
  rcases s.transaction_cases n code owner with heq | heq | ⟨r, hb, heq⟩ | ⟨-, heq⟩ <;> rw [heq]
  · exact h
  · exact h.congr rfl rfl rfl rfl rfl
  · exact h.overrun hb n
  · exact State.withOutputs_exact _

theorem State.OutputsExact.readTransaction {s : State} (h : s.OutputsExact) (n : Nat) : (s.readTransaction n).OutputsExact := by
  unfold State.readTransaction
  split
  · exact h
  · rcases s.serve_cases fun s => (s.readOut n).withOutputs with ⟨-, heq⟩ | ⟨-, -, heq⟩ | ⟨-, -, heq⟩ <;> rw [heq]
    · exact h
    · exact h.congr rfl rfl rfl rfl rfl
    · exact State.withOutputs_exact _

/-- At power-on no zone is IN_USE, so PURGE is asserted, and no line is in FAULT. -/
theorem State.poweredOn_exact (s : State) (phase : Phase) : (s.poweredOn phase).OutputsExact := by
  have hzone : ∀ z, (s.poweredOn phase).zone z = Zone.powerOn := fun _ => rfl
  have hline : ∀ l, ((s.poweredOn phase).line l).state = .idle := fun l => by rw [s.poweredOn_line phase l]; rfl
  refine ⟨?_, ?_, ?_, ?_, rfl⟩ <;>
    simp [hzone, hline, Zone.powerOn] <;> simp [State.poweredOn, State.reset]

/-- Settles O7. A command that writes more than the response and the queue ends with the pins re-evaluated. -/
theorem outputsFollowRecords : Obligations.OutputsFollowRecords := by
  intro s t hs hstep
  unfold step at hstep
  split at hstep
  · cases hstep
    exact hs
  next c cs _ =>
    have h : ({ s with pending := cs } : State).OutputsExact := hs.congr rfl rfl rfl rfl rfl
    revert hstep h
    generalize ({ s with pending := cs } : State) = s'
    intro hstep h
    cases carriedOut c with
    | request code params owner hc he =>
      cases (he s').symm.trans hstep
      exact h.transaction _ _ _
    | event effect hc he =>
      rw [he, event_eq] at hstep
      cases hstep
      split
      · exact h
      · exact State.withOutputs_exact _
    | read n hc =>
      cases hc
      cases hstep
      exact h.readTransaction n
    | malformed bytes hc =>
      subst hc
      cases bytes with
      | nil =>
        cases hstep
        exact h
      | cons b rest =>
        by_cases hb : b = 0x3C#8
        · subst hb
          cases hstep
          exact h.readTransaction _
        · rw [exec_malformed hb] at hstep
          cases hstep
          exact h.transaction _ _ _
    | reset hc =>
      rcases hc with rfl | rfl <;> cases hstep <;> exact s'.poweredOn_exact _
    | startUpEnd hc =>
      subst hc
      obtain ⟨begun, hend⟩ := exec_startUpEnd s'
      cases hend.symm.trans hstep
      split
      · exact h.congr rfl rfl rfl rfl rfl
      · exact h
    | input l b hc =>
      subst hc
      by_cases hl : l < Config.lineCount
      · cases (if_pos hl).symm.trans hstep
        exact State.withOutputs_exact _
      · cases (if_neg hl).symm.trans hstep
        exact h

/-! ## The read -/

theorem readBytes_length (frame : List Byte) (n : Nat) : (readBytes frame n).length = n := by simp [readBytes]

theorem getElem_readBytes (frame : List Byte) (n i : Nat) (h : i < (readBytes frame n).length) :
    (readBytes frame n)[i] = (0xFF#8 :: frame).getD i 0xFF#8 := by
  cases i <;> simp [readBytes, idleByte]

/-- A read of the whole frame drives idle bytes before and after it (R179). -/
theorem readBytes_whole {frame : List Byte} {n : Nat} (h : 1 + frame.length ≤ n) :
    readBytes frame n = 0xFF#8 :: frame ++ List.replicate (n - 1 - frame.length) 0xFF#8 := by
  refine List.ext_getElem (by simp [readBytes_length]; omega) fun i hi hi' => ?_
  rw [getElem_readBytes, List.getElem_append, List.getD_eq_getElem?_getD]
  split
  · next hlt => rw [List.getElem?_eq_getElem hlt]; rfl
  · next hge => rw [List.getElem?_eq_none (by omega)]; simp

theorem readBytes_part {frame : List Byte} {n : Nat} (h : n < 1 + frame.length) :
    readBytes frame n = (0xFF#8 :: frame).take n := by
  refine List.ext_getElem (by simp [readBytes_length]; omega) fun i hi hi' => ?_
  have hlt : i < (0xFF#8 :: frame).length := by rw [readBytes_length] at hi; simp; omega
  rw [getElem_readBytes, List.getElem_take, List.getD_eq_getElem?_getD, List.getElem?_eq_getElem hlt]
  rfl

/-- Settles O18. The bytes driven are the held frame, or the empty one, between idle bytes. -/
theorem readSendsTheResponse : Obligations.ReadSendsTheResponse := by
  intro s n hp hi ho hn
  have hserve : exec (.read n) s = .next (s.readOut n).withOutputs := by rw [exec_read hn, s.serve_running hp hi]
  have hout : s.out = _ := State.outputs_of_exact ho
  have hkept : ∀ bytes, ({ s with miso := bytes } : State).withOutputs = { s with miso := bytes } :=
    fun _ => State.withOutputs_of_exact (ho.congr rfl rfl rfl rfl rfl)
  refine ⟨fun rest hrest => ?_, fun r hr => ⟨fun hwhole => ?_, fun hpart => ?_⟩, fun hnone => ?_⟩
  · rw [← hrest, Nat.add_comm]
    exact exec_malformed_read s rest
  · have hframe : 1 + r.frame.length ≤ n := hwhole
    rw [hserve, State.readOut, hr]
    dsimp only
    rw [if_pos hframe, readBytes_whole hframe, State.withOutputs, hout]
    rfl
  · have hframe : n < 1 + r.frame.length := hpart
    rw [hserve, State.readOut, hr]
    dsimp only
    rw [if_neg (by omega), readBytes_part hframe, ← hr, hkept]
    rfl
  · refine ⟨readBytes emptyFrame n, ?_, readBytes_length _ _, fun i hlt => ?_⟩
    · rw [hserve, State.readOut, hnone]
      dsimp only
      rw [← hnone, hkept]
    · have hlt' : i < (readBytes emptyFrame n).length := by rwa [readBytes_length]
      rw [List.getD_eq_getElem?_getD, List.getElem?_eq_getElem hlt', Option.getD_some, getElem_readBytes]
      rfl

end Sys2Proof.Machine
end

section
/-! CERTIFICATE. A refused request changes nothing but the response placed. -/

namespace Sys2Proof.Machine

/-- A request that is answered and not carried out leaves the state but for the response (R181). -/
theorem exec_refused {c : Instr} {s t : State} {code : Nat} {params : List Byte} {r : Response} (h : s.Ready)
    (ho : s.OutputsExact) (hc : c.request = some (code, params)) (ht : exec c s = .next t) (hb : t.buffer = some r)
    (hr : r.reason ≠ .done) : t = s.onlyAnswered (5 + params.length) code r.reason r.payload := by
  obtain ⟨owner, he, answers⟩ := exec_request hc
  rw [he, s.transaction_ready h] at ht
  cases ht
  rw [State.answered_buffer] at hb
  cases hb
  rw [(answers s).refusal hr, State.answered_of_exact ho]

theorem exec_unknownRequest {s : State} (h : s.Ready) (ho : s.OutputsExact) (code : Nat) (params : List Byte) :
    exec (.unknownRequest code params) s = .next (s.onlyAnswered (5 + params.length) code .unknown []) :=
  request_ready_unchanged (c := .unknownRequest code params) rfl h ho (a := (refuse s .unknown).2) rfl

theorem exec_malformed_ready {s : State} (h : s.Ready) (ho : s.OutputsExact) {b : Byte} (hb : b ≠ 0x3C#8) (rest : List Byte) :
    exec (.malformedRequest (b :: rest)) s = .next (s.onlyAnswered (1 + rest.length) (byteAt rest 0) .frame []) := by
  rw [exec_malformed hb, s.transaction_ready h]
  exact congrArg _ (State.answered_of_exact ho _ _ _ _)

/-! ## Numbers out of range -/

section
variable {s : State} {c : Instr} {code : Nat} {params : List Byte} {owner : State → State × OwnerAnswer}

/-- An owner that refuses in `s` places its reason and changes nothing else (R181). -/
theorem request_refused (hc : c.request = some (code, params)) (h : s.Ready) (ho : s.OutputsExact) {r : Reason}
    (hs : owner s = refuse s r) : request c s owner = .next (s.onlyAnswered (5 + params.length) code r []) :=
  request_ready_unchanged hc h ho (a := (refuse s r).2) hs

end

theorem bayInRange_false {b : Nat} (h : 2048 ≤ b) : bayInRange b = false := decide_eq_false (Nat.not_lt.mpr h)

theorem zoneInRange_false {z : Nat} (h : 32 ≤ z) : zoneInRange z = false := decide_eq_false (Nat.not_lt.mpr h)

theorem nodeInRange_iff (l a : Nat) : nodeInRange l a = true ↔ l < 4 ∧ 1 ≤ a ∧ a ≤ 63 := by
  simp only [nodeInRange, within, Bool.and_eq_true, decide_eq_true_eq]
  exact Iff.rfl

theorem nodeInRange_false {l a : Nat} (h : ¬ (l < 4 ∧ 1 ≤ a ∧ a ≤ 63)) : nodeInRange l a = false :=
  Bool.eq_false_iff.mpr fun hn => h ((nodeInRange_iff l a).mp hn)

theorem offerableOfCode_eq_none {k : Nat} (h : 3 < k) : offerableOfCode k = none := by
  obtain ⟨n, rfl⟩ := Nat.exists_eq_add_of_le' h
  match n with
  | 0 => rfl
  | 1 => rfl
  | _ + 2 => rfl

/-- Settles O16. A refusal hands the state back, so the response placed is all that changes; each range check is the first its
owner makes. -/
theorem refusedRequestsChangeNothing : Obligations.RefusedRequestsChangeNothing := by
  refine ⟨fun c s t code params r h ho hc ht hb hr => exec_refused h ho hc ht hb hr,
    fun s h ho => ⟨exec_unknownRequest h ho, fun b hb => exec_malformed_ready h ho hb [], fun b0 b1 rest hb => ?_⟩,
    fun s h ho => ⟨fun b hb => ?bay, fun r hr => ?row, fun z hz => ?zone, fun e he => ?entrance, fun z n hn => ?stage,
      fun e k ticket hk => ?best, fun l a hla => ?node, fun i hi => ?sign⟩⟩
  · rw [exec_malformed_ready h ho hb, List.length_cons, ← Nat.add_assoc, Nat.add_right_comm]
    rfl
  case bay =>
    have hrange := bayInRange_false hb
    refine ⟨fun p hp => ?_, fun k => ?_⟩
    · simp only [List.mem_cons, List.not_mem_nil, or_false] at hp
      rcases hp with rfl | rfl | rfl | rfl
      · exact request_refused (c := .getBay b) rfl h ho (by rw [if_neg (by simp [hrange])])
      · exact request_refused (c := .bayClose b) rfl h ho (if_pos hrange)
      · exact request_refused (c := .bayOpen b) rfl h ho (if_pos hrange)
      · exact request_refused (c := .holdRelease b) rfl h ho (if_pos hrange)
    · exact request_refused (c := .holdPlaceByBay b k) rfl h ho (if_pos (by simp [hrange]))
  case row =>
    exact request_refused (c := .getRow r) rfl h ho
      (if_neg fun hin => absurd (of_decide_eq_true hin) (Nat.not_lt.mpr hr))
  case zone =>
    have hrange := zoneInRange_false hz
    refine ⟨fun p hp => ?_, fun cfg => ?_⟩
    · simp only [List.mem_cons, List.not_mem_nil, or_false] at hp
      rcases hp with rfl | rfl | rfl
      · exact request_refused (c := .zoneShed z) rfl h ho (if_pos hrange)
      · exact request_refused (c := .zoneUnshed z) rfl h ho (if_pos hrange)
      · exact request_refused (c := .getZone z) rfl h ho (if_neg (by simp [hrange]))
    · exact request_refused (c := .zoneSetFree z cfg) rfl h ho (if_pos hrange)
  case entrance =>
    exact request_refused (c := .getRoutes e) rfl h ho (if_neg fun hin => absurd (of_decide_eq_true hin) (Nat.not_lt.mpr he))
  case stage =>
    refine request_refused (c := .fanReset z n) rfl h ho (if_pos (Bool.eq_false_iff.mpr fun hin => hn ?_))
    simp only [zoneInRange, within, Bool.and_eq_true, decide_eq_true_eq] at hin
    exact hin
  case best =>
    refine request_refused (c := .holdPlaceBest e k ticket) rfl h ho ?_
    split
    · rfl
    · next c hc =>
      refine if_pos (Bool.eq_false_iff.mpr fun hin => hk ?_)
      simp only [Bool.and_eq_true, decide_eq_true_eq] at hin
      refine ⟨hin.1, Nat.le_of_not_lt fun hlt => ?_, hin.2⟩
      rw [offerableOfCode_eq_none hlt] at hc
      cases hc
  case node =>
    have hrange := nodeInRange_false hla
    refine ⟨fun p hp => ?_, fun k b1 b2 => ?_⟩
    · simp only [List.mem_cons, List.not_mem_nil, or_false] at hp
      rcases hp with rfl | rfl | rfl | rfl
      · exact request_refused (c := .nodeRetire l a) rfl h ho (if_pos hrange)
      · exact request_refused (c := .nodeBar l a) rfl h ho (if_pos hrange)
      · exact request_refused (c := .nodeUnbar l a) rfl h ho (if_pos hrange)
      · exact request_refused (c := .getNode l a) rfl h ho (if_neg (by simp [hrange]))
    · exact request_refused (c := .nodeBind l a k b1 b2) rfl h ho (if_pos hrange)
  case sign =>
    exact request_refused (c := .getSign i) rfl h ho
      (if_neg fun hin => absurd (of_decide_eq_true hin) (Nat.not_lt.mpr hi))

end Sys2Proof.Machine
end

section
/-! SUPPORT. Legal records: what a number of a legal state reads as, and the writes that keep a state legal. -/

namespace Sys2Proof.Machine

/-! ## Listed records -/

section
variable {α : Type} [DecidableEq α] {d : α} {t : Table α} {k : Nat} {a : α} {e : Nat × α}

omit [DecidableEq α] in
theorem Table.mem_erase : e ∈ Table.erase t k ↔ e ∈ t ∧ e.1 ≠ k := by simp [Table.erase]

theorem Table.mem_set : e ∈ Table.set d t k a ↔ (e = (k, a) ∧ a ≠ d) ∨ (e ∈ t ∧ e.1 ≠ k) := by
  unfold Table.set
  split
  · next h => simp [h, Table.mem_erase]
  · next h => simp [h, Table.insert_mem, Table.mem_erase]

theorem Table.mem_map {f : α → α} : e ∈ Table.map d f t ↔ ∃ x ∈ t, e = (x.1, f x.2) ∧ f x.2 ≠ d := by
  simp only [Table.map, List.mem_filter, List.mem_map, decide_eq_true_eq]
  constructor
  · rintro ⟨⟨x, hx, rfl⟩, hd⟩
    exact ⟨x, hx, rfl, hd⟩
  · rintro ⟨x, hx, rfl, hd⟩
    exact ⟨⟨x, hx, rfl⟩, hd⟩

omit [DecidableEq α] in
/-- A number that does not read as the default is listed. -/
theorem Table.mem_of_get_ne (h : Table.get d t k ≠ d) : (k, Table.get d t k) ∈ t :=
  (Table.get_cases d t k).resolve_left h

omit [DecidableEq α] in
/-- What holds of the default and of every listed record holds of every number. -/
theorem Table.get_of_forall {P : α → Prop} (hd : P d) (ht : ∀ e ∈ t, P e.2) (k : Nat) : P (Table.get d t k) := by
  rcases Table.get_cases d t k with h | h
  · rwa [h]
  · exact ht _ h

theorem Table.lt_of_get_ne {bound : Nat} (hw : Table.wf d bound t = true) (h : Table.get d t k ≠ d) : k < bound :=
  ((Table.wf_iff d bound t).mp hw).2.1 _ (Table.mem_of_get_ne h)

end

/-! ## Reading a legal state -/

theorem State.tablesWf_iff (s : State) : s.tablesWf = true ↔
    Table.wf Bay.powerOn 2048 s.bays = true ∧ Table.wf Zone.powerOn 32 s.zones = true ∧ Table.wf 255 256 s.routes = true
      ∧ Table.wf Line.powerOn 4 s.lines = true ∧ Table.wf Node.powerOn 256 s.nodes = true
      ∧ Table.wf Sign.powerOn 32 s.signs = true := by
  simp only [State.tablesWf, Bool.and_eq_true, and_assoc]
  exact Iff.rfl

section
variable {s : State}

theorem State.Legal.zonesWf (h : s.Legal) : Table.wf Zone.powerOn 32 s.zones = true := (s.tablesWf_iff.mp h.tables).2.1

theorem State.Legal.nodesWf (h : s.Legal) : Table.wf Node.powerOn 256 s.nodes = true := by
  obtain ⟨-, -, -, -, hn, -⟩ := s.tablesWf_iff.mp h.tables
  exact hn

theorem State.Legal.linesWf (h : s.Legal) : Table.wf Line.powerOn 4 s.lines = true := by
  obtain ⟨-, -, -, hl, -, -⟩ := s.tablesWf_iff.mp h.tables
  exact hl

theorem State.Legal.bay (h : s.Legal) (b : Nat) : (s.bay b).Legal := by
  refine Table.get_of_forall ?_ h.bays b
  simp [Bay.Legal, Bay.powerOn]

theorem Zone.powerOn_legal : Zone.powerOn.Legal := by decide

theorem State.Legal.zone (h : s.Legal) (z : Nat) : (s.zone z).Legal := Table.get_of_forall Zone.powerOn_legal h.zones z

theorem Node.powerOn_legal : Node.powerOn.Legal := by simp [Node.Legal, Node.powerOn, Service.legal, Service.answering]

theorem State.Legal.node (h : s.Legal) (id : NodeId) : (s.node id).Legal :=
  Table.get_of_forall Node.powerOn_legal (fun e he => (h.nodes e he).2) id.key

theorem State.Legal.sign (h : s.Legal) (i : Nat) : (s.sign i).Legal := by
  refine Table.get_of_forall ?_ h.signs i
  simp [Sign.Legal, Sign.powerOn]

/-- A bay number past the table reads as the power-on record. -/
theorem State.Legal.bay_out (h : s.Legal) {b : Nat} (hb : 2048 ≤ b) : s.bay b = Bay.powerOn := by
  refine Classical.byContradiction fun hne => ?_
  exact absurd (Table.lt_of_get_ne h.baysWf hne) (Nat.not_lt.mpr hb)

theorem State.Legal.zone_out (h : s.Legal) {z : Nat} (hz : 32 ≤ z) : s.zone z = Zone.powerOn := by
  refine Classical.byContradiction fun hne => ?_
  exact absurd (Table.lt_of_get_ne h.zonesWf hne) (Nat.not_lt.mpr hz)

theorem State.Legal.line_out (h : s.Legal) {l : Nat} (hl : 4 ≤ l) : s.line l = Line.powerOn := by
  refine Classical.byContradiction fun hne => ?_
  exact absurd (Table.lt_of_get_ne h.linesWf hne) (Nat.not_lt.mpr hl)

theorem NodeId.exists_iff (id : NodeId) (ha : id.address < 64) : id.Exists ↔ id.key < 256 ∧ id.key % 64 ≠ 0 := by
  unfold NodeId.Exists NodeId.key
  omega

/-- A listed node record stands at a line and an address that exist (R65). -/
theorem State.Legal.nodeIdOf_exists (h : s.Legal) {e : Nat × Node} (he : e ∈ s.nodes) : (nodeIdOf e.1).Exists := by
  have hkey := ((Table.wf_iff _ _ _).mp h.nodesWf).2.1 e he
  have haddress := (h.nodes e he).1
  refine ⟨?_, ?_, ?_⟩ <;> simp only [nodeIdOf] <;> omega

/-- An OFF record is the power-on record, so a node of some kind is not OFF (R65). -/
theorem Node.Legal.off_iff {n : Node} (h : n.Legal) : n.state = .off ↔ n = Node.powerOn := by
  constructor
  · exact h.1
  · rintro rfl
    rfl

theorem Node.Legal.off_iff_service {n : Node} (h : n.Legal) : n.state = .off ↔ n.service = .none := by
  obtain ⟨hoff, hon, -⟩ := h
  constructor
  · exact fun ho => by rw [hoff ho]; rfl
  · exact fun hs => Classical.byContradiction fun ho => hon ho hs

/-- The record of a node not OFF is listed. -/
theorem State.Legal.mem_nodes (h : s.Legal) {id : NodeId} (hon : (s.node id).state ≠ .off) : (id.key, s.node id) ∈ s.nodes :=
  Table.mem_of_get_ne fun hd => hon ((h.node id).off_iff.mpr hd)

theorem State.Legal.key_of_on (h : s.Legal) {id : NodeId} (hon : (s.node id).state ≠ .off) :
    id.key < 256 ∧ id.key % 64 ≠ 0 := by
  have hm := h.mem_nodes hon
  exact ⟨((Table.wf_iff _ _ _).mp h.nodesWf).2.1 _ hm, (h.nodes _ hm).1⟩

theorem State.node_nodeIdOf_key (s : State) (id : NodeId) : s.node (nodeIdOf id.key) = s.node id :=
  node_of_key (nodeIdOf_key id.key)

/-! ## Writes that keep a state legal -/

theorem State.Legal.setBay (h : s.Legal) {b : Nat} (hb : b < 2048) {x : Bay} (hx : x.Legal) : (s.setBay b x).Legal := by
  obtain ⟨wb, wz, wr, wl, wn, ws⟩ := s.tablesWf_iff.mp h.tables
  refine { h with tables := (State.tablesWf_iff _).mpr ⟨Table.wf_set _ _ _ _ _ wb hb, wz, wr, wl, wn, ws⟩, bays := ?_ }
  intro e he
  rcases Table.mem_set.mp he with ⟨rfl, -⟩ | ⟨he, -⟩
  · exact hx
  · exact h.bays e he

theorem State.Legal.setZone (h : s.Legal) {z : Nat} (hz : z < 32) {x : Zone} (hx : x.Legal) : (s.setZone z x).Legal := by
  obtain ⟨wb, wz, wr, wl, wn, ws⟩ := s.tablesWf_iff.mp h.tables
  refine { h with tables := (State.tablesWf_iff _).mpr ⟨wb, Table.wf_set _ _ _ _ _ wz hz, wr, wl, wn, ws⟩, zones := ?_ }
  intro e he
  rcases Table.mem_set.mp he with ⟨rfl, -⟩ | ⟨he, -⟩
  · exact hx
  · exact h.zones e he

theorem State.Legal.setRoute (h : s.Legal) {e z c : Nat} (he : e < 8) (hz : z < 32) (hc : c ≤ 255) :
    (s.setRoute e z c).Legal := by
  obtain ⟨wb, wz, wr, wl, wn, ws⟩ := s.tablesWf_iff.mp h.tables
  have hk : 32 * e + z < 256 := by omega
  refine { h with tables := (State.tablesWf_iff _).mpr ⟨wb, wz, Table.wf_set _ _ _ _ _ wr hk, wl, wn, ws⟩, routes := ?_ }
  intro x hx
  rcases Table.mem_set.mp hx with ⟨rfl, -⟩ | ⟨hx, -⟩
  · exact hc
  · exact h.routes x hx

theorem State.Legal.setLine (h : s.Legal) {l : Nat} (hl : l < 4) {x : Line} (hx : x.Legal) : (s.setLine l x).Legal := by
  obtain ⟨wb, wz, wr, wl, wn, ws⟩ := s.tablesWf_iff.mp h.tables
  refine { h with tables := (State.tablesWf_iff _).mpr ⟨wb, wz, wr, Table.wf_set _ _ _ _ _ wl hl, wn, ws⟩, lines := ?_ }
  intro e he
  rcases Table.mem_set.mp he with ⟨rfl, -⟩ | ⟨he, -⟩
  · exact hx
  · exact h.lines e he

theorem State.Legal.setSign (h : s.Legal) {i : Nat} (hi : i < 32) {x : Sign} (hx : x.Legal) : (s.setSign i x).Legal := by
  obtain ⟨wb, wz, wr, wl, wn, ws⟩ := s.tablesWf_iff.mp h.tables
  refine { h with tables := (State.tablesWf_iff _).mpr ⟨wb, wz, wr, wl, wn, Table.wf_set _ _ _ _ _ ws hi⟩, signs := ?_ }
  intro e he
  rcases Table.mem_set.mp he with ⟨rfl, -⟩ | ⟨he, -⟩
  · exact hx
  · exact h.signs e he

theorem State.Legal.setNode (h : s.Legal) {id : NodeId} (hk : id.key < 256 ∧ id.key % 64 ≠ 0) {n : Node} (hn : n.Legal) :
    (s.setNode id n).Legal := by
  obtain ⟨wb, wz, wr, wl, wn, ws⟩ := s.tablesWf_iff.mp h.tables
  refine { h with
    tables := (State.tablesWf_iff _).mpr ⟨wb, wz, wr, wl, Table.wf_set _ _ _ _ _ wn hk.1, ws⟩, nodes := ?_ }
  intro e he
  rcases Table.mem_set.mp he with ⟨rfl, -⟩ | ⟨he, -⟩
  · exact ⟨hk.2, hn⟩
  · exact h.nodes e he

/-- Writing a record of a node that is not OFF. -/
theorem State.Legal.setNode_on (h : s.Legal) {id : NodeId} (hon : (s.node id).state ≠ .off) {n : Node} (hn : n.Legal) :
    (s.setNode id n).Legal := h.setNode (h.key_of_on hon) hn

/-- Every listed node record changed. -/
theorem State.Legal.mapNodes (h : s.Legal) {f : Node → Node} (hf : ∀ n : Node, n.Legal → (f n).Legal) :
    ({ s with nodes := Table.map Node.powerOn f s.nodes } : State).Legal := by
  obtain ⟨wb, wz, wr, wl, wn, ws⟩ := s.tablesWf_iff.mp h.tables
  refine { h with
    tables := (State.tablesWf_iff _).mpr ⟨wb, wz, wr, wl, Table.wf_map _ _ _ _ wn, ws⟩, nodes := ?_ }
  intro e he
  obtain ⟨x, hx, rfl, -⟩ := Table.mem_map.mp he
  exact ⟨(h.nodes x hx).1, hf _ (h.nodes x hx).2⟩

theorem State.Legal.mapBays (h : s.Legal) {f : Bay → Bay} (hf : ∀ b : Bay, b.Legal → (f b).Legal) :
    ({ s with bays := Table.map Bay.powerOn f s.bays } : State).Legal := by
  obtain ⟨wb, wz, wr, wl, wn, ws⟩ := s.tablesWf_iff.mp h.tables
  refine { h with
    tables := (State.tablesWf_iff _).mpr ⟨Table.wf_map _ _ _ _ wb, wz, wr, wl, wn, ws⟩, bays := ?_ }
  intro e he
  obtain ⟨x, hx, rfl, -⟩ := Table.mem_map.mp he
  exact hf _ (h.bays x hx)

theorem State.Legal.mapZones (h : s.Legal) {f : Zone → Zone} (hf : ∀ z : Zone, z.Legal → (f z).Legal) :
    ({ s with zones := Table.map Zone.powerOn f s.zones } : State).Legal := by
  obtain ⟨wb, wz, wr, wl, wn, ws⟩ := s.tablesWf_iff.mp h.tables
  refine { h with
    tables := (State.tablesWf_iff _).mpr ⟨wb, Table.wf_map _ _ _ _ wz, wr, wl, wn, ws⟩, zones := ?_ }
  intro e he
  obtain ⟨x, hx, rfl, -⟩ := Table.mem_map.mp he
  exact hf _ (h.zones x hx)

theorem State.Legal.mapLines (h : s.Legal) {f : Line → Line} (hf : ∀ l : Line, l.Legal → (f l).Legal) :
    ({ s with lines := Table.map Line.powerOn f s.lines } : State).Legal := by
  obtain ⟨wb, wz, wr, wl, wn, ws⟩ := s.tablesWf_iff.mp h.tables
  refine { h with
    tables := (State.tablesWf_iff _).mpr ⟨wb, wz, wr, Table.wf_map _ _ _ _ wl, wn, ws⟩, lines := ?_ }
  intro e he
  obtain ⟨x, hx, rfl, -⟩ := Table.mem_map.mp he
  exact hf _ (h.lines x hx)

/-- The fields of the host link, the tick count and the choices are outside the legal ranges. -/
theorem State.Legal.setLink (h : s.Legal) (phase : Phase) (ticks : Nat) (ignoring : Bool) (buffer : Option Response)
    (out : Outputs) (miso : List Byte) (choices : Nat) :
    ({ s with phase := phase, ticks := ticks, ignoring := ignoring, buffer := buffer, out := out, miso := miso,
              choices := choices } : State).Legal :=
  { h with tables := h.tables }

theorem State.Legal.setSite (h : s.Legal) {c : SiteParams} (hc : siteLegal c) : ({ s with site := c } : State).Legal :=
  { h with tables := h.tables, site := hc }

theorem State.Legal.setSitePending (h : s.Legal) {m : EventSet} (hm : onlyKindsOf siteKinds m = true) :
    ({ s with sitePending := m } : State).Legal := { h with tables := h.tables, sitePending := hm }

theorem State.Legal.setEdit (h : s.Legal) {e : Option Edit} (he : ∀ x ∈ e, x.Legal) : ({ s with edit := e } : State).Legal :=
  { h with tables := h.tables, edit := he }

theorem State.Legal.setPending (h : s.Legal) {cs : List Instr} (hc : ∀ c ∈ cs, c.wf = true) :
    ({ s with pending := cs } : State).Legal := { h with tables := h.tables, pending := hc }

/-- What each step of a fold keeps legal, the fold keeps legal. -/
theorem State.Legal.foldl {α : Type} {f : State → α → State} (hf : ∀ (s : State) a, s.Legal → (f s a).Legal) (l : List α)
    (h : s.Legal) : (l.foldl f s).Legal := by
  induction l generalizing s with
  | nil => exact h
  | cons a l ih => exact ih (hf s a h)

end

end Sys2Proof.Machine
end

section
/-! CERTIFICATE. The band procedure has hysteresis. -/

namespace Sys2Proof.Machine

theorem Band.rank_injective {a b : Band} (h : a.rank = b.rank) : a = b := by cases a <;> cases b <;> simp_all [Band.rank]

theorem Band.rank_above {a b : Band} (h : a.above = some b) : b.rank = a.rank + 1 := by
  cases a <;> cases b <;> simp_all [Band.above, Band.rank]

theorem Band.rank_below {a b : Band} (h : a.below = some b) : a.rank = b.rank + 1 := by
  cases a <;> cases b <;> simp_all [Band.below, Band.rank]

theorem Band.above_eq_none {a : Band} (h : a.above = none) : a.rank = 3 := by cases a <;> simp_all [Band.above, Band.rank]

theorem Band.below_eq_none {a : Band} (h : a.below = none) : a.rank = 0 := by cases a <;> simp_all [Band.below, Band.rank]

theorem Band.rank_le (a : Band) : a.rank ≤ 3 := by cases a <;> decide

theorem Band.rank_pos {a : Band} (h : a ≠ .clear) : 0 < a.rank := by cases a <;> simp_all [Band.rank]

/-- The on-thresholds rise with the band (R29). -/
theorem onThreshold_mono {c : ZoneParams} (h : zoneParamsInRange c = true) {a b : Band} (hab : a.rank ≤ b.rank) :
    onThreshold c a ≤ onThreshold c b := by
  simp only [zoneParamsInRange, Bool.and_eq_true, decide_eq_true_eq] at h
  have hhigh : c.raisedOn < c.highOn := by omega
  have hpurge : c.highOn < c.purgeOn := by omega
  cases a <;> cases b <;> simp_all [onThreshold, Band.rank] <;> omega

/-- Below the band there is a threshold above band_h (R29). -/
theorem bandH_lt_onThreshold {c : ZoneParams} (h : zoneParamsInRange c = true) {a : Band} (ha : a ≠ .clear) :
    c.bandH < onThreshold c a := by
  have hraised : c.bandH < onThreshold c .raised := by
    simp only [zoneParamsInRange, Bool.and_eq_true, decide_eq_true_eq] at h
    simp only [onThreshold]
    omega
  exact Nat.lt_of_lt_of_le hraised (onThreshold_mono h (a := .raised) (Band.rank_pos ha))

section
variable {c : ZoneParams} (h : zoneParamsInRange c = true) (s : Nat)
include h

/-- The rise ends at the highest band above `b` whose on-threshold S has reached (R101). -/
theorem riseBand_iff (fuel : Nat) (b : Band) (hfuel : 3 ≤ b.rank + fuel) :
    b.rank ≤ (riseBand c s fuel b).rank
      ∧ ∀ b' : Band, b.rank < b'.rank → (b'.rank ≤ (riseBand c s fuel b).rank ↔ onThreshold c b' ≤ s) := by
  induction fuel generalizing b with
  | zero => exact ⟨Nat.le_refl _, fun b' hb' => absurd b'.rank_le (by omega)⟩
  | succ fuel ih =>
    unfold riseBand
    cases habove : b.above with
    | none => exact ⟨Nat.le_refl _, fun b' hb' => absurd b'.rank_le (by have := Band.above_eq_none habove; omega)⟩
    | some up =>
      have hrank := Band.rank_above habove
      dsimp only
      split
      · next hreached =>
        obtain ⟨hle, hiff⟩ := ih up (by omega)
        refine ⟨by omega, fun b' hb' => ?_⟩
        rcases Nat.lt_or_ge up.rank b'.rank with hup | hup
        · exact hiff b' hup
        · obtain rfl : b' = up := Band.rank_injective (by omega)
          exact iff_of_true hle hreached
      · next hunder =>
        refine ⟨Nat.le_refl _, fun b' hb' => iff_of_false (by omega) fun hs => hunder ?_⟩
        exact Nat.le_trans (onThreshold_mono h (by omega)) hs

/-- The fall ends above no band whose on-threshold less band_h S is below (R101). -/
theorem fallBand_iff (fuel : Nat) (b : Band) (hfuel : b.rank ≤ fuel) :
    (fallBand c s fuel b).rank ≤ b.rank
      ∧ ∀ b' : Band, b' ≠ .clear → b'.rank ≤ b.rank →
        ((fallBand c s fuel b).rank < b'.rank ↔ s < onThreshold c b' - c.bandH) := by
  induction fuel generalizing b with
  | zero => exact ⟨Nat.le_refl _, fun b' hb' hle => absurd (Band.rank_pos hb') (by omega)⟩
  | succ fuel ih =>
    unfold fallBand
    cases hbelow : b.below with
    | none => exact ⟨Nat.le_refl _, fun b' hb' hle =>
        absurd (Band.rank_pos hb') (by have := Band.below_eq_none hbelow; omega)⟩
    | some down =>
      have hrank := Band.rank_below hbelow
      dsimp only
      split
      · next hunder =>
        obtain ⟨hle, hiff⟩ := ih down (by omega)
        refine ⟨by omega, fun b' hb' hb => ?_⟩
        rcases Nat.lt_or_ge down.rank b'.rank with hdown | hdown
        · obtain rfl : b' = b := Band.rank_injective (by omega)
          exact iff_of_true (by omega) hunder
        · exact hiff b' hb' hdown
      · next hheld =>
        refine ⟨Nat.le_refl _, fun b' hb' hb => iff_of_false (by omega) fun hs => hheld ?_⟩
        have := onThreshold_mono h hb
        omega

end

/-- Settles O27: the rise and the fall each by the thresholds they pass, and the fall taken only where nothing rises. -/
theorem bandProcedureHasHysteresis : Obligations.BandProcedureHasHysteresis := by
  intro c s b hc r
  obtain ⟨hup, hupIff⟩ := riseBand_iff hc s 3 b (by omega)
  obtain ⟨hdown, hdownIff⟩ := fallBand_iff hc s 3 b b.rank_le
  have hthreshold := fun b' hb' => bandH_lt_onThreshold hc (a := b') hb'
  by_cases hrise : riseBand c s 3 b = b
  · have hr : r = fallBand c s 3 b := if_pos hrise
    have hunreached : ∀ b', b.above = some b' → s < onThreshold c b' := fun b' hb' => by
      have hrank := Band.rank_above hb'
      have := hupIff b' (by omega)
      rw [hrise] at this
      omega
    refine ⟨fun hlt => absurd hdown (by rw [← hr]; omega), fun _ => ⟨hunreached, fun b' hb' hle => ?_⟩,
      fun hstay => ⟨hunreached, fun hb => ?_⟩⟩
    · rw [hr, hdownIff b' hb' hle]
      have := hthreshold b' hb'
      omega
    · have hheld := hdownIff b hb (Nat.le_refl _)
      rw [← hr, hstay] at hheld
      have := hthreshold b hb
      omega
  · have hr : r = riseBand c s 3 b := if_neg hrise
    have hne : b.rank ≠ (riseBand c s 3 b).rank := fun he => hrise (Band.rank_injective he.symm)
    refine ⟨fun hlt => ?_, fun hlt => absurd hup (by rw [← hr]; omega), fun hstay => absurd (hr.symm.trans hstay) hrise⟩
    rw [hr] at hlt ⊢
    exact ⟨(hupIff _ hlt).mp (Nat.le_refl _), hupIff⟩

end Sys2Proof.Machine
end

section
/-! CERTIFICATE. The edit dropped, the driver released, the aisle timer stopped, and the probe of a line in FAULT. -/

namespace Sys2Proof.Machine

/-! ## Requests carried out, and events outside RESET -/

section
variable {c : Instr} {s t : State} {code : Nat} {params : List Byte} {owner : State → State × OwnerAnswer} {a : OwnerAnswer}

theorem request_answered (hc : c.request = some (code, params)) (h : s.Ready) (hs : owner s = (t, a)) :
    request c s owner = .next (t.answered (5 + params.length) code a.reason a.payload) := by
  rw [request_ready hc h, hs]

/-- An owner whose changes move no pin leaves its changes and the response (R181, R182). -/
theorem request_answered_exact (hc : c.request = some (code, params)) (h : s.Ready) (hs : owner s = (t, a))
    (ht : t.OutputsExact) : request c s owner = .next (t.onlyAnswered (5 + params.length) code a.reason a.payload) := by
  rw [request_answered hc h hs, State.answered_of_exact ht]

end

theorem event_running {s : State} (h : s.phase ≠ .held) (f : State → State) : event s f = .next (f s).withOutputs := by
  rw [event_eq, if_neg h]

/-- An event whose changes move no pin leaves its changes. -/
theorem event_exact {s t : State} (h : s.phase ≠ .held) {f : State → State} (hf : f s = t) (ht : t.OutputsExact) :
    event s f = .next t := by
  rw [event_running h, hf, State.withOutputs_of_exact ht]

/-- A change of records that the pins do not read leaves the pins exact. -/
theorem State.OutputsExact.of_lines {s t : State} (h : s.OutputsExact) (hout : t.out = s.out) (hbuffer : t.buffer = s.buffer)
    (hzones : t.zones = s.zones) (hsite : t.sitePending = s.sitePending)
    (hlines : ∀ l, ((t.line l).state = .fault ↔ (s.line l).state = .fault)) : t.OutputsExact := by
  obtain ⟨hr, ha, hp, hf, hm⟩ := h
  have hzone : t.zone = s.zone := funext fun z => State.zone_of_zones hzones z
  unfold State.OutputsExact
  simp only [hout, hbuffer, hzone, hsite, hlines]
  exact ⟨hr, ha, hp, hf, hm⟩

/-- A line record written that is in FAULT exactly as before leaves the pins exact. -/
theorem State.OutputsExact.setLine {s : State} (h : s.OutputsExact) {l : Nat} {x : Line}
    (hx : x.state = .fault ↔ (s.line l).state = .fault) : (s.setLine l x).OutputsExact :=
  h.of_lines rfl rfl rfl rfl fun i => by
    rw [State.line_setLine]
    split
    · next hi => rw [hi, hx]
    · exact Iff.rfl

/-! ## The row edit -/

theorem raiseSite_editExpired {s : State} (h : s.site.mask.getLsbD 15 = true) :
    s.raiseSite .editExpired = { s with sitePending := s.sitePending ||| 0x8000#16 } := by
  simp only [State.raiseSite, raised]
  rw [if_pos (c := EventKind.isIn .editExpired s.site.mask = true) h]
  rfl

/-- Settles O33. -/
theorem editIsDropped : Obligations.EditIsDropped := by
  intro s ho
  have hdropped : ({ s with edit := none } : State).OutputsExact := ho.congr rfl rfl rfl rfl rfl
  refine ⟨fun h hnone => ?_, fun h hsome => ?_, fun e hheld he hdue => ?_⟩
  · exact request_refused (c := .editDrop) rfl h ho (by rw [hnone])
  · obtain ⟨e, he⟩ := Option.ne_none_iff_exists'.mp hsome
    exact request_answered_exact (c := .editDrop) (t := { s with edit := none }) (a := doneEmpty) rfl h (by rw [he]) hdropped
  · have heffect : exec .windowTimerExpiry s = .next (({ s with edit := none } : State).raiseSite .editExpired).withOutputs := by
      show execWindowTimerExpiry s = _
      unfold execWindowTimerExpiry
      rw [event_running hheld]
      simp only [he, hdue, if_true]
    rw [heffect]
    by_cases hmask : s.site.mask.getLsbD 15 = true
    · rw [if_pos hmask, raiseSite_editExpired (s := { s with edit := none }) hmask]
      have hmember : s.sitePending ||| 0x8000#16 ≠ 0#16 := fun h => by
        have := congrArg (·.getLsbD 15) h
        simp at this
      obtain ⟨hr, -, hp, hf, hm⟩ := ho
      exact congrArg _ (State.withOutputs_of_exact
        (s := { s with edit := none, sitePending := s.sitePending ||| 0x8000#16, out := { s.out with attn := true } })
        ⟨hr, iff_of_true rfl (.inr hmember), hp, hf, hm⟩)
    · have hkept : ({ s with edit := none } : State).raiseSite .editExpired = { s with edit := none } := by
        simp only [State.raiseSite, raised]
        rw [if_neg (c := EventKind.isIn .editExpired s.site.mask = true) hmask]
      rw [hkept, if_neg hmask, State.withOutputs_of_exact hdropped]

/-! ## The lines -/

/-- Settles O41. -/
theorem driverAndInputMoveTheLine : Obligations.DriverAndInputMoveTheLine := by
  intro s l ho hl
  have hother : ∀ (x : Line) i, i ≠ l → (s.setLine l x).line i = s.line i := fun x i hi => by
    rw [State.line_setLine, if_neg hi]
  refine ⟨fun v hheld hv hde => ?_, fun b => ?_⟩
  · refine ⟨_, event_exact hheld (t := s.setLine l _) (if_pos (by simp [hv, hde])) (ho.setLine Iff.rfl), rfl, hother _, ?_⟩
    exact State.line_setLine_self _ _ _
  · refine ⟨s.setLine l ((s.line l).received b), ?_, rfl, hother _, ?_⟩
    · refine (if_pos hl).trans (congrArg _ (State.withOutputs_of_exact ?_))
      exact ho.setLine Iff.rfl
    · rw [State.line_setLine_self]
      simp [Line.received]

/-! ## The aisle timer -/

theorem State.recomputeLights_row {s : State} {id : NodeId} {r n : Nat} {lights : LightSet}
    (h : (s.node id).service = .row r n lights) :
    s.recomputeLights id.key = if s.lightsOf r n lights.timer = lights then s
      else s.setNode (nodeIdOf id.key)
        { s.node id with service := .row r n (s.lightsOf r n lights.timer), outputPending := true } := by
  unfold State.recomputeLights
  simp only [State.node_nodeIdOf_key, h]

/-- Settles O58. -/
theorem aisleTimerStops : Obligations.AisleTimerStops := by
  intro s l a r n lights hheld ho hl ha ha' hrow htimer
  let stopped : Node := { s.node ⟨l, a⟩ with service := .row r n { lights with timer := none } }
  have hset : s.setAisleTimer ⟨l, a⟩ none = (s.setNode ⟨l, a⟩ stopped).recomputeLights (NodeId.key ⟨l, a⟩) := by
    unfold State.setAisleTimer
    rw [hrow]
    rfl
  have hnode : (s.setNode ⟨l, a⟩ stopped).node ⟨l, a⟩ = stopped := State.node_setNode_self _ _ _
  have hlights := State.recomputeLights_row (s := s.setNode ⟨l, a⟩ stopped) (id := ⟨l, a⟩) (r := r) (n := n)
    (lights := { lights with timer := none }) (by rw [hnode])
  rw [← hset, hnode] at hlights
  have hevent : ∀ t, s.setAisleTimer ⟨l, a⟩ none = t → t.OutputsExact → exec (.aisleTimerExpiry l a) s = .next t :=
    fun t ht hexact => event_exact hheld ((if_pos (by rw [hrow]; exact htimer)).trans ht) hexact
  have hkey : ∀ j : NodeId, j.Exists → j ≠ ⟨l, a⟩ → j.key ≠ NodeId.key ⟨l, a⟩ :=
    fun j hj hne => NodeId.key_ne hj ⟨hl, ha, ha'⟩ hne
  have hother : ∀ x (j : NodeId), j.Exists → j ≠ ⟨l, a⟩ → (s.setNode ⟨l, a⟩ x).node j = s.node j := fun x j hj hne => by
    rw [State.node_setNode, if_neg (hkey j hj hne)]
  by_cases hsame : s.lightsOf r n none = { lights with timer := none }
  · refine ⟨s.setNode ⟨l, a⟩ stopped, hevent _ (hlights.trans (if_pos hsame)) (ho.congr rfl rfl rfl rfl rfl), rfl, ?_,
      hother _⟩
    rw [hnode]
    simp [stopped, hsame]
  · refine ⟨_, hevent _ (hlights.trans (if_neg hsame)) (ho.congr rfl rfl rfl rfl rfl), rfl, ?_, fun j hj hne => ?_⟩
    · rw [State.node_setNode, if_pos (nodeIdOf_key _).symm]
      simp [stopped, hsame]
      rfl
    · rw [State.node_setNode, nodeIdOf_key, if_neg (hkey j hj hne), hother _ j hj hne]

end Sys2Proof.Machine
end

section
/-! SUPPORT. Operations that write node records only: marks, light sets and records of a line learned again, one node or
several. -/

namespace Sys2Proof.Machine

/-! ## Several nodes written -/

/-- A fold of operations that write the node table only writes the node table only. -/
theorem foldl_nodes_only {α : Type} {f : State → α → State} (hf : ∀ (s : State) a, f s a = { s with nodes := (f s a).nodes })
    (l : List α) (s : State) : l.foldl f s = { s with nodes := (l.foldl f s).nodes } := by
  induction l generalizing s with
  | nil => rfl
  | cons a l ih =>
    rw [List.foldl_cons, ih, hf s a]

/-- Several numbers changed by one idempotent function of the record. -/
theorem foldl_node {f : State → Nat → State} {g : Node → Node}
    (hf : ∀ (s : State) k (j : NodeId), (f s k).node j = if j.key = k then g (s.node j) else s.node j)
    (hg : ∀ n, g (g n) = g n) (l : List Nat) (s : State) (j : NodeId) :
    (l.foldl f s).node j = if j.key ∈ l then g (s.node j) else s.node j := by
  induction l generalizing s with
  | nil => simp
  | cons k l ih =>
    rw [List.foldl_cons, ih, hf]
    by_cases hk : j.key = k
    · subst hk
      by_cases hl : j.key ∈ l <;> simp [hl, hg]
    · by_cases hl : j.key ∈ l <;> simp [hk, hl]

/-- The nodes of `nodesWhere` are those that meet the condition, for a condition that the power-on record does not meet. -/
theorem State.mem_nodesWhere {s : State} {p : Node → Bool} (hp : p Node.powerOn = false) (j : NodeId) :
    j.key ∈ s.nodesWhere p ↔ p (s.node j) = true := by
  simp only [State.nodesWhere, List.mem_filter, State.node_nodeIdOf_key, and_iff_right_iff_imp]
  intro h
  refine List.mem_map_of_mem (f := (·.1)) (Table.mem_of_get_ne (d := Node.powerOn) (k := j.key) fun hd => ?_)
  rw [State.node, hd, hp] at h
  cases h

/-! ## Marks -/

/-- A node record with output pending set, unless it is OFF (R67). -/
def Node.marked (n : Node) : Node := if n.state = .off then n else { n with outputPending := true }

theorem Node.marked_on {n : Node} (h : n.state ≠ .off) : n.marked = { n with outputPending := true } := if_neg h

theorem Node.marked_off {n : Node} (h : n.state = .off) : n.marked = n := if_pos h

theorem Node.marked_marked (n : Node) : n.marked.marked = n.marked := by
  by_cases h : n.state = .off <;> simp [Node.marked, h]

theorem State.markOutput_eq (s : State) (id : NodeId) : s.markOutput id = { s with nodes := (s.markOutput id).nodes } := by
  unfold State.markOutput
  split <;> rfl

theorem State.node_markOutput (s : State) (id j : NodeId) :
    (s.markOutput id).node j = if j.key = id.key then (s.node j).marked else s.node j := by
  unfold State.markOutput
  by_cases hj : j.key = id.key
  · rw [if_pos hj]
    have hnode : s.node j = s.node id := node_of_key hj
    split
    · next h => rw [hnode, Node.marked_off h]
    · next h => rw [State.node_setNode, if_pos hj, hnode, Node.marked_on h]
  · rw [if_neg hj]
    split
    · rfl
    · rw [State.node_setNode, if_neg hj]

theorem State.markSignNode_eq (s : State) (id : Option NodeId) :
    s.markSignNode id = { s with nodes := (s.markSignNode id).nodes } := by
  unfold State.markSignNode
  split
  · exact s.markOutput_eq _
  · rfl

theorem State.node_markSignNode (s : State) (id : Option NodeId) (j : NodeId) :
    (s.markSignNode id).node j = if id.map NodeId.key = some j.key then (s.node j).marked else s.node j := by
  cases id with
  | none => simp [State.markSignNode]
  | some id => simp [State.markSignNode, State.node_markOutput, eq_comm]

/-- The nodes of a list of numbers marked. -/
theorem State.node_markNodes (s : State) (l : List Nat) (j : NodeId) :
    (l.foldl (fun s k => s.markOutput (nodeIdOf k)) s).node j = if j.key ∈ l then (s.node j).marked else s.node j :=
  foldl_node (fun s k j => by rw [State.node_markOutput, nodeIdOf_key]) Node.marked_marked l s j

theorem State.levelChanged_eq (s : State) (z before after : Nat) :
    s.levelChanged z before after = { s with nodes := (s.levelChanged z before after).nodes } := by
  unfold State.levelChanged
  split
  · rfl
  · exact foldl_nodes_only (fun s k => s.markOutput_eq _) _ s

/-- The nodes whose open OFFER names the zone are marked where its level changed (R133). -/
theorem State.node_levelChanged (s : State) (z before after : Nat) (j : NodeId) :
    (s.levelChanged z before after).node j =
      if before ≠ after ∧ (s.node j).offersZone z = true then (s.node j).marked else s.node j := by
  unfold State.levelChanged
  by_cases h : before = after
  · simp [h]
  · rw [if_neg h, State.node_markNodes]
    simp only [State.mem_nodesWhere (p := Node.offersZone z) rfl, ne_eq, h, not_false_eq_true, true_and]

/-! ## Light sets -/

/-- A node record with its light set as the records of `s` give it, marked where it differs (R165, R166). -/
def State.relit (s : State) (n : Node) : Node :=
  match n.service with
  | .row r k lights =>
    if s.lightsOf r k lights.timer = lights then n
    else { n with service := .row r k (s.lightsOf r k lights.timer), outputPending := true }
  | .none => n
  | .gas => n
  | .fan => n
  | .sign => n
  | .entry _ _ => n

theorem State.relit_row (s : State) {n : Node} {r k : Nat} {lights : LightSet} (h : n.service = .row r k lights) :
    s.relit n = { n with service := .row r k (s.lightsOf r k lights.timer)
                         outputPending := n.outputPending || decide (s.lightsOf r k lights.timer ≠ lights) } := by
  unfold State.relit
  simp only [h]
  split
  · next heq =>
    obtain ⟨service, state, misses, toggle, marker, pending⟩ := n
    simp_all
  · next hne => simp [hne]

theorem State.relit_other (s : State) {n : Node} (h : n.service.kind ≠ some .row) : s.relit n = n := by
  unfold State.relit
  split
  · next hrow => exact absurd (by rw [hrow]; rfl) h
  all_goals rfl

theorem State.relit_relit (s : State) (n : Node) : s.relit (s.relit n) = s.relit n := by
  by_cases h : n.service.kind = some .row
  · obtain ⟨r, k, lights, hrow⟩ : ∃ r k lights, n.service = .row r k lights := by
      cases hs : n.service <;> simp_all [Service.kind]
    rw [s.relit_row hrow, s.relit_row rfl]
    have htimer : (s.lightsOf r k lights.timer).timer = lights.timer := rfl
    simp [htimer]
  · rw [s.relit_other h, s.relit_other h]

theorem State.relit_sameLink (s : State) (n : Node) : n.SameLink (s.relit n) := by
  by_cases h : n.service.kind = some .row
  · obtain ⟨r, k, lights, hrow⟩ : ∃ r k lights, n.service = .row r k lights := by
      cases hs : n.service <;> simp_all [Service.kind]
    rw [s.relit_row hrow]
    exact ⟨rfl, rfl, rfl, rfl, by rw [hrow]; rfl, by rw [hrow]; rfl, by rw [hrow]; rfl⟩
  · rw [s.relit_other h]
    exact .refl n

theorem State.recomputeLights_eq (s : State) (k : Nat) :
    s.recomputeLights k = { s with nodes := (s.recomputeLights k).nodes } := by
  unfold State.recomputeLights
  dsimp only
  split
  · split <;> rfl
  all_goals rfl

theorem State.node_recomputeLights (s : State) (k : Nat) (j : NodeId) :
    (s.recomputeLights k).node j = if j.key = k then s.relit (s.node j) else s.node j := by
  have hid : (nodeIdOf k).key = k := nodeIdOf_key k
  by_cases hj : j.key = k
  · have hnode : s.node (nodeIdOf k) = s.node j := node_of_key (hid.trans hj.symm)
    rw [if_pos hj]
    unfold State.recomputeLights State.relit
    dsimp only
    rw [hnode]
    cases hs : (s.node j).service with
    | row r n lights =>
      dsimp only
      split
      · rfl
      · rw [State.node_setNode, if_pos (hj.trans hid.symm)]
    | none | gas | fan | sign | entry => rfl
  · rw [if_neg hj]
    unfold State.recomputeLights
    dsimp only
    split
    · split
      · rfl
      · rw [State.node_setNode, if_neg (hid.symm ▸ hj)]
    all_goals rfl

theorem State.recomputeLightsOf_eq (s : State) (l : List Nat) :
    l.foldl State.recomputeLights s = { s with nodes := (l.foldl State.recomputeLights s).nodes } :=
  foldl_nodes_only State.recomputeLights_eq l s

theorem State.node_recomputeLightsOf (l : List Nat) (s : State) (j : NodeId) :
    (l.foldl State.recomputeLights s).node j = if j.key ∈ l then s.relit (s.node j) else s.node j := by
  induction l generalizing s with
  | nil => simp
  | cons k l ih =>
    rw [List.foldl_cons, ih, State.node_recomputeLights]
    have hrelit : (s.recomputeLights k).relit = s.relit := by rw [s.recomputeLights_eq k]; rfl
    rw [hrelit]
    by_cases hk : j.key = k
    · subst hk
      by_cases hl : j.key ∈ l <;> simp [hl, s.relit_relit]
    · by_cases hl : j.key ∈ l <;> simp [hk, hl]

/-- Every light set is as the records give it, and no other node record is written (R42, R170). -/
theorem State.node_allLights (s : State) (j : NodeId) : s.allLights.node j = s.relit (s.node j) := by
  rw [State.allLights, State.node_recomputeLightsOf]
  split
  · rfl
  · next h =>
    rw [State.mem_nodesWhere (p := Node.isRow) rfl, Node.isRow, decide_eq_true_iff] at h
    rw [s.relit_other h]

theorem State.allLights_eq (s : State) : s.allLights = { s with nodes := s.allLights.nodes } := s.recomputeLightsOf_eq _

/-! ## A line learned again -/

theorem Node.relearned_relearned (n : Node) : n.relearned.relearned = n.relearned := by
  by_cases h : n.state = .off <;> simp [Node.relearned, h]

theorem State.relearnLine_eq (s : State) (l : Nat) : s.relearnLine l = { s with nodes := (s.relearnLine l).nodes } :=
  foldl_nodes_only (f := fun (s : State) k => s.setNode (nodeIdOf k) (s.node (nodeIdOf k)).relearned) (fun _ _ => rfl) _ s

theorem NodeId.key_div {j : NodeId} (hj : j.Exists) : j.key / 64 = j.line := by
  obtain ⟨-, -, ha⟩ := hj
  unfold NodeId.key
  omega

theorem State.node_relearnLine (s : State) (l : Nat) {j : NodeId} (hj : j.Exists) :
    (s.relearnLine l).node j = if j.line = l then (s.node j).relearned else s.node j := by
  have hone : ∀ (s : State) (k : Nat) (j : NodeId), (s.setNode (nodeIdOf k) (s.node (nodeIdOf k)).relearned).node j
      = if j.key = k then (s.node j).relearned else s.node j := fun s k j => by
    rw [State.node_setNode, nodeIdOf_key]
    split
    · next h => rw [node_of_key (h.trans (nodeIdOf_key k).symm)]
    · rfl
  rw [State.relearnLine, foldl_node hone Node.relearned_relearned]
  simp only [List.mem_filter, State.mem_nodesWhere (p := fun n => decide (n.state ≠ .off)) rfl, NodeId.key_div hj,
    decide_eq_true_eq]
  by_cases hoff : (s.node j).state = .off <;> by_cases hl : j.line = l <;> simp [hoff, hl, Node.relearned]

end Sys2Proof.Machine
end

section
/-! SUPPORT. Lists changed at one place, places found, and operand codes read. -/

namespace Sys2Proof.Machine

/-! ## Lists -/

theorem getElem?_changeAt {α : Type} (f : α → α) (l : List α) (i j : Nat) :
    (changeAt f l i)[j]? = if j = i then l[j]?.map f else l[j]? := by
  induction l generalizing i j with
  | nil => cases i <;> simp [changeAt]
  | cons x l ih =>
    cases i with
    | zero => cases j <;> simp [changeAt]
    | succ i =>
      cases j with
      | zero => simp [changeAt]
      | succ j => simp [changeAt, ih]

theorem mem_changeAt {α : Type} {f : α → α} {l : List α} {i : Nat} {y : α} (h : y ∈ changeAt f l i) :
    y ∈ l ∨ ∃ x, l[i]? = some x ∧ y = f x := by
  obtain ⟨j, hj⟩ := List.mem_iff_getElem?.mp h
  rw [getElem?_changeAt] at hj
  split at hj
  · next heq =>
    obtain ⟨x, hx, rfl⟩ := Option.map_eq_some_iff.mp hj
    exact .inr ⟨x, heq ▸ hx, rfl⟩
  · exact .inl (List.mem_of_getElem? hj)

theorem map_changeAt {α β : Type} {f : α → α} {g : α → β} (hf : ∀ x, g (f x) = g x) (l : List α) (i : Nat) :
    (changeAt f l i).map g = l.map g := by
  refine List.ext_getElem? fun j => ?_
  rw [List.getElem?_map, List.getElem?_map, getElem?_changeAt]
  split
  · cases l[j]? <;> simp [hf]
  · rfl

/-- How a count moves when one item changes. -/
theorem countP_changeAt_add {α : Type} (q : α → Bool) (f : α → α) {l : List α} {i : Nat} {x : α} (h : l[i]? = some x) :
    (changeAt f l i).countP q + (q x).toNat = l.countP q + (q (f x)).toNat := by
  induction l generalizing i with
  | nil => cases h
  | cons y l ih =>
    cases i with
    | zero =>
      cases h
      simp only [changeAt, List.countP_cons]
      cases q x <;> cases q (f x) <;> simp
    | succ i =>
      have := ih h
      simp only [changeAt, List.countP_cons]
      omega

theorem removeAt_eq {α : Type} (l : List α) (i : Nat) : removeAt l i = l.take i ++ l.drop (i + 1) := by
  induction l generalizing i with
  | nil => simp [removeAt]
  | cons x l ih => cases i <;> simp [removeAt, ih]

theorem firstPlace_eq_none {α : Type} {p : α → Bool} {l : List α} : firstPlace p l = none ↔ ∀ x ∈ l, p x = false := by
  induction l with
  | nil => simp [firstPlace]
  | cons x l ih =>
    unfold firstPlace
    split
    · next hx => simp [hx]
    · next hx =>
      split
      · next i hi =>
        rw [List.forall_mem_cons, ← ih, hi]
        simp
      · next hi =>
        rw [List.forall_mem_cons, ← ih, hi]
        simpa using hx

/-- The first place that meets a condition: it does, and none before it does. -/
theorem firstPlace_eq_some {α : Type} {p : α → Bool} {l : List α} {i : Nat} : firstPlace p l = some i ↔
    (∃ x, l[i]? = some x ∧ p x = true) ∧ ∀ k, k < i → ∀ x, l[k]? = some x → p x = false := by
  induction l generalizing i with
  | nil => simp [firstPlace]
  | cons y l ih =>
    unfold firstPlace
    split
    · next hy =>
      constructor
      · intro h
        cases h
        exact ⟨⟨y, rfl, hy⟩, fun k hk => absurd hk (by omega)⟩
      · rintro ⟨-, hbefore⟩
        cases i with
        | zero => rfl
        | succ i => exact absurd hy (by rw [hbefore 0 (by omega) y rfl]; decide)
    · next hy =>
      have hy : p y = false := by simpa using hy
      have hcons : (∃ x, (y :: l)[i]? = some x ∧ p x = true) ∧ (∀ k, k < i → ∀ x, (y :: l)[k]? = some x → p x = false) ↔
          ∃ j, i = j + 1 ∧ firstPlace p l = some j := by
        cases i with
        | zero => simp [hy]
        | succ i =>
          simp only [List.getElem?_cons_succ, Nat.add_right_cancel_iff, exists_eq_left', ih]
          refine and_congr_right fun _ => ⟨fun h k hk => h (k + 1) (by omega), fun h k hk => ?_⟩
          cases k with
          | zero => simp [hy]
          | succ k => exact h k (by omega)
      rw [hcons]
      cases firstPlace p l <;> simp [eq_comm]

theorem lastPlace_eq_none {α : Type} {p : α → Bool} {l : List α} : lastPlace p l = none ↔ ∀ x ∈ l, p x = false := by
  induction l with
  | nil => simp [lastPlace]
  | cons x l ih =>
    unfold lastPlace
    split
    · next i hi =>
      rw [List.forall_mem_cons, ← ih, hi]
      simp
    · next hi =>
      rw [List.forall_mem_cons, ← ih, hi]
      simp

/-- The last place that meets a condition: it does, and none after it does. -/
theorem lastPlace_meets {α : Type} {p : α → Bool} {l : List α} {i : Nat} (h : lastPlace p l = some i) :
    (∃ x, l[i]? = some x ∧ p x = true) ∧ ∀ k, i < k → ∀ x, l[k]? = some x → p x = false := by
  induction l generalizing i with
  | nil => cases h
  | cons y l ih =>
    unfold lastPlace at h
    split at h
    · next j hj =>
      cases h
      obtain ⟨hmeets, hafter⟩ := ih hj
      refine ⟨hmeets, fun k hk => ?_⟩
      cases k with
      | zero => omega
      | succ k => exact hafter k (by omega)
    · next hnone =>
      split at h
      · next hy =>
        cases h
        refine ⟨⟨y, rfl, hy⟩, fun k hk x hx => ?_⟩
        cases k with
        | zero => omega
        | succ k => exact lastPlace_eq_none.mp hnone x (List.mem_of_getElem? hx)
      · cases h

theorem lastPlace_eq_some {α : Type} {p : α → Bool} {l : List α} {i : Nat} {x : α} (hx : l[i]? = some x) (hp : p x = true)
    (hafter : ∀ k, i < k → ∀ y, l[k]? = some y → p y = false) : lastPlace p l = some i := by
  cases h : lastPlace p l with
  | none => exact absurd (lastPlace_eq_none.mp h x (List.mem_of_getElem? hx)) (by simp [hp])
  | some j =>
    obtain ⟨⟨y, hy, hpy⟩, hlast⟩ := lastPlace_meets h
    rcases Nat.lt_trichotomy i j with hij | rfl | hij
    · exact absurd (hafter j hij y hy) (by simp [hpy])
    · rfl
    · exact absurd (hlast i hij x hx) (by simp [hp])

/-! ## Operand codes -/

theorem BayClass.ofCode_of_le {k : Nat} (h : k ≤ 5) : ∃ c, BayClass.ofCode k = some c ∧ c.code = k := by
  match k with
  | 0 => exact ⟨.standard, rfl, rfl⟩
  | 1 => exact ⟨.compact, rfl, rfl⟩
  | 2 => exact ⟨.accessible, rfl, rfl⟩
  | 3 => exact ⟨.charging, rfl, rfl⟩
  | 4 => exact ⟨.staff, rfl, rfl⟩
  | 5 => exact ⟨.retired, rfl, rfl⟩

theorem BayClass.code_of_ofCode {k : Nat} {c : BayClass} (h : BayClass.ofCode k = some c) : c.code = k ∧ k ≤ 5 := by
  unfold BayClass.ofCode at h
  split at h <;> cases h <;> exact ⟨rfl, by omega⟩

theorem BayClass.code_retired {c : BayClass} : c.code = 5 ↔ c = .retired := by cases c <;> decide

theorem closedOfCode_of_le {f : Nat} (h : f ≤ 1) : ∃ b, closedOfCode f = some b ∧ flagCode b = f := by
  match f with
  | 0 => exact ⟨false, rfl, rfl⟩
  | 1 => exact ⟨true, rfl, rfl⟩

theorem flagCode_of_closedOfCode {f : Nat} {b : Bool} (h : closedOfCode f = some b) : flagCode b = f ∧ f ≤ 1 := by
  unfold closedOfCode at h
  split at h <;> cases h <;> exact ⟨rfl, by omega⟩

/-- The entry that EDIT_PUT carries, where its values are in range (R46). -/
theorem entryOf_eq_some {z k f : Nat} {x : Entry} (h : entryOf z k f = some x) :
    z < 32 ∧ k ≤ 5 ∧ f ≤ 1 ∧ x.zone = z ∧ x.cls.code = k ∧ flagCode x.closed = f := by
  unfold entryOf at h
  split at h
  · next c b hc hb =>
    split at h
    · next hz =>
      cases h
      obtain ⟨hcode, hk⟩ := BayClass.code_of_ofCode hc
      obtain ⟨hflag, hf⟩ := flagCode_of_closedOfCode hb
      exact ⟨of_decide_eq_true hz, hk, hf, rfl, hcode, hflag⟩
    · cases h
  all_goals cases h

theorem entryOf_of_range {z k f : Nat} (hz : z < 32) (hk : k ≤ 5) (hf : f ≤ 1) : ∃ x, entryOf z k f = some x := by
  obtain ⟨c, hc, -⟩ := BayClass.ofCode_of_le hk
  obtain ⟨b, hb, -⟩ := closedOfCode_of_le hf
  refine ⟨⟨z, c, b⟩, ?_⟩
  simp only [entryOf, hc, hb]
  exact if_pos (decide_eq_true hz)

end Sys2Proof.Machine
end

section
/-! CERTIFICATE. The probe of a line in FAULT, the next visit, and the site settings. -/

namespace Sys2Proof.Machine

theorem State.line_setLine_ne (s : State) {l i : Nat} (x : Line) (h : i ≠ l) : (s.setLine l x).line i = s.line i := by
  rw [State.line_setLine, if_neg h]

/-! ## Probes -/

/-- Settles O46. -/
theorem probeReturnsTheLine : Obligations.ProbeReturnsTheLine := by
  intro s l hheld ho hs hl hfault
  refine ⟨fun hdue => ?_, fun hwatch => ?_, fun hwatch => ?_⟩
  · exact ⟨_, event_exact hheld (t := s.setLine l _) (if_pos ⟨hfault, hdue⟩) (ho.setLine Iff.rfl), rfl,
      State.line_setLine_self _ _ _, fun i hi => s.line_setLine_ne _ hi⟩
  · refine ⟨s.setLine l { s.line l with watch := false, probe := some Config.probeTicks }, event_exact hheld ?_
      (ho.setLine Iff.rfl), rfl, State.line_setLine_self _ _ _, fun i hi => s.line_setLine_ne _ hi⟩
    exact if_pos ⟨hfault, hwatch⟩
  · let line : Line := { s.line l with state := .scanning, scan := 0, breakMeasure := 0, watch := false }
    let t := ((s.setLine l line).relearnLine l).raiseSite .lineBack
    have hrelearn := State.relearnLine_eq (s.setLine l line) l
    have ht : t = { s with lines := t.lines, nodes := t.nodes, sitePending := t.sitePending } := by
      simp only [t]
      rw [hrelearn]
      rfl
    have hline : ∀ i, t.line i = (s.setLine l line).line i := fun i => by
      simp only [t, State.raiseSite_line]
      rw [hrelearn]
      rfl
    refine ⟨t.withOutputs, ?_, ?_, State.withOutputs_exact t, ?_, fun i hi => ?_, ?_, fun j hj => ?_⟩
    · refine (event_running hheld _).trans ?_
      simp only [hfault, hwatch, and_self, if_true]
      rfl
    · exact congrArg (fun u : State => { u with out := t.withOutputs.out }) ht
    · rw [State.withOutputs_line, hline, State.line_setLine_self]
    · rw [State.withOutputs_line, hline, s.line_setLine_ne _ hi]
    · show raised _ _ _ = _
      rw [hrelearn]
      rfl
    · show ((s.setLine l line).relearnLine l).node j = _
      rw [State.node_relearnLine _ l hj, State.setLine_node]
      by_cases hjl : j.line = l <;> by_cases hoff : (s.node j).state = .off <;> simp [hjl, hoff, Node.relearned]

/-! ## The next visit -/

/-- The bound addresses of a line (R68). -/
theorem State.Legal.mem_addresses {s : State} (h : s.Legal) (l a : Nat) :
    a ∈ s.addresses l ↔ 1 ≤ a ∧ a ≤ 63 ∧ (s.node ⟨l, a⟩).state ≠ .off := by
  have hmem : ∀ k, k ∈ s.nodesWhere (fun n => decide (n.state ≠ .off)) ↔ (s.node (nodeIdOf k)).state ≠ .off := fun k => by
    have := State.mem_nodesWhere (s := s) (p := fun n => decide (n.state ≠ .off)) rfl (nodeIdOf k)
    rw [nodeIdOf_key] at this
    simpa using this
  simp only [State.addresses, List.mem_map, List.mem_filter, hmem, decide_eq_true_eq]
  constructor
  · rintro ⟨k, ⟨hon, rfl⟩, rfl⟩
    obtain ⟨-, hmod⟩ := h.key_of_on hon
    rw [nodeIdOf_key] at hmod
    exact ⟨by omega, by omega, hon⟩
  · rintro ⟨ha, ha', hon⟩
    have hid : nodeIdOf (NodeId.key ⟨l, a⟩) = ⟨l, a⟩ := by
      simp only [nodeIdOf, NodeId.key, NodeId.mk.injEq]
      omega
    exact ⟨NodeId.key ⟨l, a⟩, ⟨hid.symm ▸ hon, congrArg NodeId.line hid⟩, congrArg NodeId.address hid⟩

theorem State.Legal.addresses_sorted {s : State} (h : s.Legal) (l : Nat) : (s.addresses l).Pairwise (· < ·) := by
  have hkeys : (Table.keys s.nodes).Pairwise (· < ·) := by
    have := ((Table.wf_iff _ _ _).mp h.nodesWf).1
    simpa [Table.keys, List.pairwise_map] using this
  have hline : ((s.nodesWhere fun n => decide (n.state ≠ .off)).filter fun k => decide (k / 64 = l)).Pairwise (· < ·) :=
    (hkeys.filter _).filter _
  refine List.pairwise_map.mpr (hline.imp_of_mem fun {i j} hi hj hlt => ?_)
  simp only [List.mem_filter, decide_eq_true_eq] at hi hj
  omega

/-- The next visit goes to the lowest bound address above the scan position, or else to the lowest (R68). -/
theorem State.Legal.nextAddress_eq {s : State} (h : s.Legal) {l a : Nat} (ha : a ∈ s.addresses l)
    (hnext : ((s.line l).scan < a ∧ ∀ x ∈ s.addresses l, (s.line l).scan < x → a ≤ x)
      ∨ ((∀ x ∈ s.addresses l, x ≤ (s.line l).scan) ∧ ∀ x ∈ s.addresses l, a ≤ x)) :
    s.nextAddress l = some a := by
  have hsorted := h.addresses_sorted l
  unfold State.nextAddress
  rcases hnext with ⟨habove, hleast⟩ | ⟨hnone, hleast⟩
  · cases hfind : (s.addresses l).find? fun a => decide ((s.line l).scan < a) with
    | none => exact absurd (List.find?_eq_none.mp hfind a ha) (by simp [habove])
    | some b =>
      have hb := List.find?_some hfind
      have hle := hleast b (List.mem_of_find?_eq_some hfind) (by simpa using hb)
      have hge : ¬ a < b := fun hlt => by simpa [habove] using find?_least hsorted hfind a ha hlt
      exact congrArg some (by omega)
  · have hfind : ((s.addresses l).find? fun a => decide ((s.line l).scan < a)) = none :=
      List.find?_eq_none.mpr fun x hx => by simpa using hnone x hx
    rw [hfind]
    cases haddr : s.addresses l with
    | nil =>
      rw [haddr] at ha
      cases ha
    | cons b l' =>
      rw [haddr] at ha hsorted hleast
      have hle := hleast b List.mem_cons_self
      rcases List.mem_cons.mp ha with rfl | ha
      · rfl
      · exact absurd (List.rel_of_pairwise_cons hsorted ha) (by omega)

/-- Settles O39. -/
theorem visitGoesToTheNextNode : Obligations.VisitGoesToTheNextNode := by
  intro s l a hheld ho hs hl hscan hvisit ha ha' off n heard hon hnext
  have hmem := hs.mem_addresses l
  have hchosen : s.nextAddress l = some a := by
    refine hs.nextAddress_eq ((hmem a).mpr ⟨ha, ha', hon⟩) (hnext.imp ?_ ?_)
    · rintro ⟨habove, hoff⟩
      exact ⟨habove, fun x hx hlt => Nat.le_of_not_lt fun hxa => ((hmem x).mp hx).2.2 (hoff x hlt hxa)⟩
    · rintro ⟨hnone, hoff⟩
      refine ⟨fun x hx => Nat.le_of_not_lt fun hlt => ?_, fun x hx => Nat.le_of_not_lt fun hxa => ?_⟩
      · obtain ⟨-, hx63, hxon⟩ := (hmem x).mp hx
        exact hxon (hnone x hlt hx63)
      · obtain ⟨hx1, -, hxon⟩ := (hmem x).mp hx
        exact hxon (hoff x hx1 hxa)
  have hevent : exec (.visitStart l) s = .next (s.beginVisit l a) := by
    refine event_exact hheld ?_ ?_
    · rw [if_pos ⟨hscan, hvisit⟩, hchosen]
    · refine (ho.setLine (l := l) (x := { s.line l with scan := a, visit := _, de := true, breakMeasure := _ }) Iff.rfl).of_lines
        rfl rfl rfl rfl fun _ => Iff.rfl
  have hline : (s.beginVisit l a).line l = { s.line l with
      scan := a, visit := some ⟨a, n.takesCommand, s.visitFrame ⟨l, a⟩, false⟩, de := true,
      breakMeasure := (s.line l).measureAtSend s.choices } := State.line_setLine_self _ _ _
  have hheard : n.state.sentCommands = true ↔ heard := by
    simp only [heard]
    cases n.state <;> simp [NodeState.sentCommands]
  refine ⟨_, ⟨a, n.takesCommand, s.visitFrame ⟨l, a⟩, false⟩, hevent, rfl, ?_, fun hrx => ?_, ?_, rfl, rfl, rfl, ?_, ?_,
    fun id hid hne => ?_, fun i hi => ?_⟩
  · rw [hline]
  · rw [hline]
    exact ⟨if_neg (by simp [hrx]), if_neg (by simp [hrx])⟩
  · rw [hline]
    obtain ⟨-, hmeasure, -⟩ := hs.line l
    show _ ≤ (s.line l).measureAtSend s.choices
    unfold Line.measureAtSend
    split <;> omega
  · simp only [Node.takesCommand, Bool.and_eq_true, hheard, decide_eq_true_eq, and_assoc]
  · refine (State.node_setNode_self s ⟨l, a⟩ n.visited).trans ?_
    unfold Node.visited
    by_cases hsent : n.state.sentCommands = true
    · rw [if_pos hsent, if_pos (hheard.mp hsent)]
    · rw [if_neg hsent, if_neg fun h => hsent (hheard.mpr h)]
  · exact (s.node_setNode ⟨l, a⟩ n.visited id).trans (if_neg (NodeId.key_ne hid ⟨hl, ha, ha'⟩ hne))
  · exact State.line_setLine_ne _ _ hi

end Sys2Proof.Machine
end

section
/-! CERTIFICATE. The route table, the site record, the row edit, and the binding of nodes and signs. -/

namespace Sys2Proof.Machine

theorem within_iff (lo hi n : Nat) : within lo hi n = true ↔ lo ≤ n ∧ n ≤ hi := by simp [within]

theorem zoneInRange_iff (z : Nat) : zoneInRange z = true ↔ z < 32 := decide_eq_true_iff

/-! ## Routes and the site record -/

theorem siteParamsInRange_iff (c : SiteParams) : siteParamsInRange c = true ↔
    10 ≤ c.settleTicks ∧ c.settleTicks ≤ 1200 ∧ 10 ≤ c.departTicks ∧ c.departTicks ≤ 1200 ∧ 100 ≤ c.holdTicks
      ∧ c.holdTicks ≤ 6000 ∧ 10 ≤ c.aisleTicks ∧ c.aisleTicks ≤ 6000 ∧ c.mask &&& 0x01FF#16 = 0#16 := by
  have hmask : onlyKindsOf siteKinds c.mask = true ↔ c.mask &&& 0x01FF#16 = 0#16 := onlyKindsOf_kindsOf 32 c.mask
  simp only [siteParamsInRange, Bool.and_eq_true, within_iff, hmask, and_assoc]

/-- Settles O30. -/
theorem routeSetAndSiteSetWriteTheSettings : Obligations.RouteSetAndSiteSetWriteTheSettings := by
  refine ⟨fun s e z cost h ho => ⟨fun he hz => ?_, fun hout => ?_⟩, fun s c h ho => ?site⟩
  · have hin : (entranceInRange e && zoneInRange z) = true := by
      rw [Bool.and_eq_true]
      exact ⟨decide_eq_true he, decide_eq_true hz⟩
    refine ⟨_, request_answered_exact (c := .routeSet e z cost) (t := s.setRoute e z cost) (a := doneEmpty) rfl h
      (if_pos hin) (ho.congr rfl rfl rfl rfl rfl), ?_, fun e' z' he' hz' hne => ?_, rfl⟩
    · exact (s.route_setRoute e z cost e z).trans (if_pos rfl)
    · refine (s.route_setRoute e z cost e' z').trans (if_neg fun heq => hne ?_)
      have : e' = e := by omega
      have : z' = z := by omega
      subst_vars
      rfl
  · refine request_refused (c := .routeSet e z cost) rfl h ho (if_neg fun hin => hout ?_)
    rw [Bool.and_eq_true] at hin
    exact ⟨of_decide_eq_true hin.1, of_decide_eq_true hin.2⟩
  intro ok
  refine ⟨fun hout => ?_, fun hok => ?_⟩
  · exact request_refused (c := .siteSet c) rfl h ho (if_neg fun hin => hout ((siteParamsInRange_iff c).mp hin))
  · let u : State := { s with site := saturatedSite c }
    have hu : u.allLights = { u with nodes := u.allLights.nodes } := u.allLights_eq
    have hexact : u.allLights.OutputsExact := by
      rw [hu]
      exact ho.congr rfl rfl rfl rfl rfl
    have hlights : u.allLights.lightsOf = u.lightsOf := by
      rw [hu]
      rfl
    have hsite : u.allLights.site = saturatedSite c := by
      rw [hu]
    refine ⟨u.allLights.onlyAnswered 23 12 .done [], request_answered_exact (c := .siteSet c) (t := u.allLights) (a := doneEmpty) rfl h
      (if_pos ((siteParamsInRange_iff c).mpr hok)) hexact, hsite, ?_, fun id => ?_⟩
    · have hfields : u.allLights = { s with site := u.allLights.site, nodes := u.allLights.nodes } := by
        rw [hsite]
        exact hu
      exact congrArg (fun v : State => v.onlyAnswered 23 12 .done []) hfields
    · have hnode : (u.allLights.onlyAnswered 23 12 .done []).node id = u.relit (s.node id) := u.node_allLights id
      refine ⟨hnode ▸ u.relit_sameLink _, fun hkind => hnode.trans (u.relit_other hkind), fun r n lights hrow => ?_⟩
      have hrelit := u.relit_row hrow
      rw [hnode.trans hrelit]
      have hsame : (u.allLights.onlyAnswered 23 12 .done []).lightsOf r n lights.timer = u.lightsOf r n lights.timer :=
        congrFun (congrFun (congrFun hlights r) n) lights.timer
      exact ⟨by rw [← hsame], by rw [← hsame]⟩

end Sys2Proof.Machine
end

section
/-! CERTIFICATE. The row edit opened and filled. -/

namespace Sys2Proof.Machine

/-! ## The entries of an edit -/

theorem flatMap_drop {α β : Type} {f : α → List β} {n : Nat} (hf : ∀ x, (f x).length = n) (l : List α) (i : Nat) :
    (l.flatMap f).drop (n * i) = (l.drop i).flatMap f := by
  induction i generalizing l with
  | zero => rfl
  | succ i ih =>
    cases l with
    | nil => simp
    | cons x l =>
      have hx := hf x
      rw [List.flatMap_cons, List.drop_succ_cons, ← ih, Nat.mul_succ, Nat.add_comm, ← List.drop_drop,
        List.drop_left' hx]

theorem rowBays_getElem? (r i : Nat) (h : i < 16) : (rowBays r)[i]? = some (16 * r + i) := by
  simp [rowBays, h]

theorem rowBays_length (r : Nat) : (rowBays r).length = 16 := by simp [rowBays]

theorem Edit.entryBytes_at {e : Edit} {i : Nat} {x : Entry} (h : e.entries[i]? = some x) :
    (e.entryBytes.drop (3 * i)).take 3 = [u8 x.zone, u8 x.cls.code, u8 (flagCode x.closed)] := by
  obtain ⟨hi, hx⟩ := List.getElem?_eq_some_iff.mp h
  rw [Edit.entryBytes, flatMap_drop (n := 3) (fun _ => rfl), List.drop_eq_getElem_cons hi, hx]
  rfl

/-- The head of an edit whose window is full: 600 is 2 and 88 (R191). -/
theorem Edit.headBytes_full {e : Edit} (h : e.window = 600) : e.headBytes = [u8 e.row, u8 e.cursor, 2#8, 88#8] := by
  simp [Edit.headBytes, h, u16, u8]

theorem Edit.entryBytes_length (e : Edit) : e.entryBytes.length = 3 * e.entries.length := by
  rw [Edit.entryBytes, List.length_flatMap]
  show (e.entries.map fun _ => 3).sum = _
  rw [List.map_const', List.sum_replicate_nat, Nat.mul_comm]

theorem State.openedEdit_entry (s : State) (r o : Nat) {i : Nat} (h : i < 16) :
    (s.openedEdit r o).entries[i]? = some (s.bay (16 * r + i)).entry := by
  simp only [State.openedEdit, List.getElem?_map, rowBays_getElem? r i h, Option.map_some]

theorem State.openedEdit_length (s : State) (r o : Nat) : (s.openedEdit r o).entries.length = 16 := by
  simp [State.openedEdit, rowBays_length]

/-! ## EDIT_OPEN and EDIT_PUT -/

section
variable {s : State} (h : s.Ready) (ho : s.OutputsExact)
include h ho

theorem exec_editOpen {r o : Nat} (hr : r < 128) (hoff : o < 16) (hclosed : s.edit = none) :
    exec (.editOpen r o) s = .next { s.onlyAnswered 7 14 .done
      ((s.openedEdit r o).headBytes ++ (s.openedEdit r o).entryBytes) with edit := some (s.openedEdit r o) } := by
  refine request_answered_exact (c := .editOpen r o) (t := { s with edit := some (s.openedEdit r o) }) (a := ⟨.done, _⟩) rfl h ?_
    (ho.congr rfl rfl rfl rfl rfl)
  have hin : (rowInRange r && decide (o < 16)) = true := by
    rw [Bool.and_eq_true]
    exact ⟨decide_eq_true hr, decide_eq_true hoff⟩
  simp only [hin, hclosed, done]
  rfl

theorem exec_editOpen_refused {r o : Nat} :
    (¬ (r < 128 ∧ o < 16) → exec (.editOpen r o) s = .next (s.onlyAnswered 7 14 .range []))
      ∧ (r < 128 → o < 16 → s.edit ≠ none → exec (.editOpen r o) s = .next (s.onlyAnswered 7 14 .busy [])) := by
  have hin : (rowInRange r && decide (o < 16)) = true ↔ r < 128 ∧ o < 16 := by
    rw [Bool.and_eq_true, rowInRange, decide_eq_true_iff, decide_eq_true_iff]
    exact Iff.rfl
  refine ⟨fun hout => ?_, fun hr hoff hopen => ?_⟩
  · exact request_refused (c := .editOpen r o) rfl h ho (if_pos (Bool.eq_false_iff.mpr fun ht => hout (hin.mp ht)))
  · obtain ⟨e, he⟩ := Option.ne_none_iff_exists'.mp hopen
    refine request_refused (c := .editOpen r o) rfl h ho ?_
    rw [hin.mpr ⟨hr, hoff⟩, he]
    rfl

end

/-- Settles O31. -/
theorem editOpenAndEditPutFillTheBuffer : Obligations.EditOpenAndEditPutFillTheBuffer := by
  refine ⟨fun s r o h ho => ?_, fun s z k f h ho => ?_⟩
  · obtain ⟨hrange, hbusy⟩ := exec_editOpen_refused h ho (r := r) (o := o)
    refine ⟨hrange, hbusy, fun hr hoff hclosed => ⟨s.openedEdit r o, _, exec_editOpen h ho hr hoff hclosed, rfl, rfl, rfl,
      s.openedEdit_length r o, fun i hi => s.openedEdit_entry r o hi, ?_, ?_, fun i hi => ?_⟩⟩
    · rw [List.length_append, Edit.entryBytes_length, s.openedEdit_length]
      rfl
    · rw [Edit.headBytes_full rfl]
      rfl
    · have hentries := Edit.entryBytes_at (s.openedEdit_entry r o hi)
      have hhead : (s.openedEdit r o).headBytes.length = 4 := rfl
      rw [← List.drop_drop, List.drop_left' hhead]
      exact hentries
  · intro good
    refine ⟨fun hclosed => request_refused (c := .editPut z k f) rfl h ho (by rw [hclosed]), fun e he => ⟨fun hbad => ?_, fun hend hgood hk hfree => ?_,
      fun hcursor hlen hgood hallowed => ?_⟩⟩
    · refine request_refused (c := .editPut z k f) rfl h ho ?_
      rw [he]
      dsimp only
      split
      · rfl
      · next hend =>
        cases hentry : entryOf z k f with
        | none => rfl
        | some x =>
          obtain ⟨hz, hk, hf, -⟩ := entryOf_eq_some hentry
          exact absurd ⟨hz, hk, hf⟩ (hbad.resolve_left hend)
    · obtain ⟨hz, hk5, hf⟩ := hgood
      obtain ⟨x, hx⟩ := entryOf_of_range hz hk5 hf
      obtain ⟨-, -, -, hzone, hcode, -⟩ := entryOf_eq_some hx
      have hcls : x.cls ≠ .retired := fun hret => hk (hcode ▸ BayClass.code_retired.mpr hret)
      refine request_refused (c := .editPut z k f) rfl h ho ?_
      rw [he, hx]
      dsimp only
      rw [if_neg (c := e.cursor = Config.cursorEnd) hend, if_neg (by simp [State.entryAllowed, hcls, hzone, hfree])]
    · obtain ⟨hz, hk5, hf⟩ := hgood
      obtain ⟨x, hx⟩ := entryOf_of_range hz hk5 hf
      obtain ⟨-, -, -, hzone, hcode, hflag⟩ := entryOf_eq_some hx
      have hok : s.entryAllowed x = true := by
        rcases hallowed with hret | huse
        · simp [State.entryAllowed, BayClass.code_retired.mp (hcode.trans hret)]
        · simp [State.entryAllowed, hzone, huse]
      refine ⟨x, e.put x, ?_, hzone, hcode, hflag, rfl, rfl, rfl, fun i hi => ?_⟩
      · refine request_answered_exact (c := .editPut z k f) (t := { s with edit := some (e.put x) }) (a := ⟨.done, _⟩) rfl h ?_
          (ho.congr rfl rfl rfl rfl rfl)
        rw [he, hx]
        dsimp only
        rw [if_neg (c := e.cursor = Config.cursorEnd) (Nat.ne_of_lt hcursor), if_pos hok, Edit.headBytes_full rfl]
        rfl
      · refine (getElem?_changeAt _ _ _ _).trans ?_
        split
        · rw [List.getElem?_eq_getElem (by omega)]
          rfl
        · rfl

end Sys2Proof.Machine
end

section
/-! CERTIFICATE. The tick. -/

namespace Sys2Proof.Machine

/-! ## Records after a tick -/

theorem Bay.ticked_eq {b : Bay} (h : b.Legal) :
    b.ticked = { b with stateTimer := b.stateTimer - 1, hold := b.hold.map fun h => { h with timer := h.timer - 1 } } := by
  obtain ⟨-, -, htimer, -⟩ := h
  unfold Bay.ticked
  cases hc : b.census <;> simp_all

theorem Slot.ticked_eq {g : Slot} (h : g.Legal) : g.ticked = { g with age := g.age - 1 } := by
  obtain ⟨-, -, -, -, -, -, hage⟩ := h
  obtain ⟨node, channel, ref, n, fresh, age⟩ := g
  cases fresh <;> simp_all [Slot.ticked]

theorem Stage.ticked_eq {g : Stage} (h : g.Legal) : g.ticked = { g with proof := g.proof - 1, rundown := g.rundown - 1 } := by
  obtain ⟨-, -, -, hproof, hrundown⟩ := h
  obtain ⟨node, status, cause, proof, rundown⟩ := g
  cases status <;> simp_all [Stage.ticked]

/-- Outside DWELL the dwell timer stands at 0, so the tick leaves it there (R117, R124). -/
theorem Zone.ticked_eq {z : Zone} (h : z.Legal) (hseq : z.SequencerLegal) : z.ticked = { z with
    slots := z.slots.map fun g => { g with age := g.age - 1 }
    stages := z.stages.map fun g => { g with proof := g.proof - 1, rundown := g.rundown - 1 }
    dwell := z.dwell - 1 } := by
  obtain ⟨-, -, -, hslots, -⟩ := h
  obtain ⟨hstages, -, -, -, hdwell, -⟩ := hseq
  have hdwell' : (if z.seq = .dwell then z.dwell - 1 else z.dwell) = z.dwell - 1 := by
    split
    · rfl
    · next hne => simp [hdwell.resolve_left hne]
  rw [Zone.ticked, hdwell', List.map_congr_left fun g hg => Slot.ticked_eq (hslots g hg),
    List.map_congr_left fun g hg => Stage.ticked_eq (hstages g hg)]

theorem Node.ticked_row {n : Node} {r k : Nat} {g : LightSet} (h : n.service = .row r k g) :
    n.ticked = { n with service := .row r k { g with timer := g.timer.map (· - 1) } } := by
  simp only [Node.ticked, h]

theorem Node.ticked_other {n : Node} (h : n.service.kind ≠ some .row) : n.ticked = n := by
  unfold Node.ticked
  cases hs : n.service <;> simp_all [Service.kind]

/-! ## The tables after a tick -/

section
variable {s : State} (h : s.Legal)
include h

theorem State.Legal.bay_ticked (b : Nat) : s.ticked.bay b = (s.bay b).ticked := Table.get_map _ _ _ _ h.baysWf rfl b

theorem State.Legal.zone_ticked (z : Nat) : s.ticked.zone z = (s.zone z).ticked := Table.get_map _ _ _ _ h.zonesWf rfl z

theorem State.Legal.node_ticked (id : NodeId) : s.ticked.node id = (s.node id).ticked := Table.get_map _ _ _ _ h.nodesWf rfl _

theorem State.Legal.line_ticked (l : Nat) : s.ticked.line l = (s.line l).ticked := Table.get_map _ _ _ _ h.linesWf rfl l

end

/-- A tick moves no status, no pending set and no line's state, so no pin. -/
theorem State.OutputsExact.ticked {s : State} (ho : s.OutputsExact) (h : s.Legal) : s.ticked.OutputsExact := by
  obtain ⟨hr, ha, hp, hf, hm⟩ := ho
  have hstatus : ∀ g : Stage, g.ticked.status = g.status := fun g => by
    unfold Stage.ticked
    split <;> rfl
  have hstages : ∀ z, (∃ g ∈ (s.ticked.zone z).stages, g.status = .faulted) ↔ ∃ g ∈ (s.zone z).stages, g.status = .faulted :=
    fun z => by
      rw [h.zone_ticked]
      constructor
      · rintro ⟨g, hg, hf⟩
        obtain ⟨a, ha, rfl⟩ := List.mem_map.mp hg
        exact ⟨a, ha, (hstatus a).symm.trans hf⟩
      · rintro ⟨a, ha, hf⟩
        exact ⟨a.ticked, List.mem_map_of_mem ha, (hstatus a).trans hf⟩
  have hfield : ∀ z, (s.ticked.zone z).pending = (s.zone z).pending ∧ (s.ticked.zone z).inUse = (s.zone z).inUse
      ∧ (s.ticked.zone z).band = (s.zone z).band := fun z => by rw [h.zone_ticked]; exact ⟨rfl, rfl, rfl⟩
  have hline : ∀ l, (s.ticked.line l).state = (s.line l).state := fun l => by rw [h.line_ticked]; rfl
  unfold State.OutputsExact
  simp only [hstages, hfield, hline]
  exact ⟨hr, ha, hp, hf, hm⟩

/-- Settles O60. -/
theorem tickCountsTheTimersDown : Obligations.TickCountsTheTimersDown := by
  intro s hheld ho hs hseq
  refine ⟨s.ticked, event_exact hheld rfl (ho.ticked hs), rfl, fun b => ?_, fun z => ?_, fun id hid => ⟨fun r n g hrow => ?_,
    fun hkind => ?_⟩, fun l => hs.line_ticked l⟩
  · rw [hs.bay_ticked, Bay.ticked_eq (hs.bay b)]
  · rw [hs.zone_ticked]
    rcases Nat.lt_or_ge z 32 with hz | hz
    · exact Zone.ticked_eq (hs.zone z) (hseq z hz)
    · rw [hs.zone_out hz]
      rfl
  · rw [hs.node_ticked, Node.ticked_row hrow]
  · rw [hs.node_ticked, Node.ticked_other hkind]

end Sys2Proof.Machine
end

section
/-! CERTIFICATE. NODE_BIND and SIGN_SET. -/

namespace Sys2Proof.Machine

/-! ## NODE_BIND -/

/-- Some node that is not OFF meets a condition, read off the table (R65). -/
theorem State.Legal.any_nodes {s : State} (h : s.Legal) (p : Node → Bool) :
    (s.nodes.any fun e => decide (e.2.state ≠ .off) && p e.2) = true
      ↔ ∃ id, (s.node id).state ≠ .off ∧ p (s.node id) = true := by
  simp only [List.any_eq_true, Bool.and_eq_true, decide_eq_true_eq]
  constructor
  · rintro ⟨⟨k, n⟩, hm, hon, hp⟩
    have hn : s.node (nodeIdOf k) = n := by
      rw [State.node, nodeIdOf_key]
      exact Table.get_of_mem _ _ _ h.nodesWf k n hm
    exact ⟨nodeIdOf k, hn ▸ hon, hn ▸ hp⟩
  · rintro ⟨id, hon, hp⟩
    exact ⟨_, h.mem_nodes hon, hon, hp⟩

/-- A node with a kind is not OFF (R65). -/
theorem State.Legal.on_of_kind {s : State} (h : s.Legal) {id : NodeId} {k : NodeKind}
    (hk : (s.node id).service.kind = some k) : (s.node id).state ≠ .off := fun hoff => by
  rw [(h.node id).off_iff_service.mp hoff] at hk
  cases hk

/-- The binding asked for, with its light set still to be computed (R54, R190). -/
theorem serviceOf_eq (k b1 b2 : Nat) : serviceOf k b1 b2 =
    if k = 1 ∧ b1 < 128 ∧ 1 ≤ b2 ∧ b2 ≤ 16 then some (.row b1 b2 ⟨[], 0, none⟩)
    else if k = 5 ∧ b1 < 8 then some (.entry b1 .ready)
    else if k = 2 then some .gas else if k = 3 then some .fan else if k = 4 then some .sign else none := by
  have hrow : (rowInRange b1 && within 1 16 b2) = true ↔ b1 < 128 ∧ 1 ≤ b2 ∧ b2 ≤ 16 := by
    rw [Bool.and_eq_true, within_iff]
    exact and_congr_left' decide_eq_true_iff
  have hentry : decide (b1 < Config.entranceCount) = true ↔ b1 < 8 := decide_eq_true_iff
  unfold serviceOf
  match k with
  | 0 => rfl
  | 1 => simp only [NodeKind.ofCode, hrow]; simp
  | 2 => rfl
  | 3 => rfl
  | 4 => rfl
  | 5 => simp only [NodeKind.ofCode, hentry]; simp
  | _ + 6 => rfl

/-- The row or entrance is bound already (R54). -/
theorem State.Legal.bindingTaken_iff {s : State} (h : s.Legal) (v : Service) :
    s.bindingTaken v = true ↔ ∃ id, (s.node id).service.sharesBinding v = true := by
  refine (h.any_nodes fun n => n.service.sharesBinding v).trans ⟨fun ⟨id, _, hv⟩ => ⟨id, hv⟩, fun ⟨id, hv⟩ => ⟨id, ?_, hv⟩⟩
  intro hoff
  rw [(h.node id).off_iff_service.mp hoff] at hv
  cases v <;> cases hv

theorem Service.sharesBinding_row {v : Service} {r n : Nat} {g : LightSet} :
    v.sharesBinding (.row r n g) = true ↔ ∃ n' g', v = .row r n' g' := by
  cases v <;> simp [Service.sharesBinding]

theorem Service.sharesBinding_entry {v : Service} {e : Nat} {a : Answer} :
    v.sharesBinding (.entry e a) = true ↔ ∃ a', v = .entry e a' := by
  cases v <;> simp [Service.sharesBinding]

theorem Line.begun_eq (l : Line) :
    l.begun = if l.state = .idle then { l with state := .scanning, scan := 0, breakMeasure := 0 } else l := rfl

section
variable {s : State} (h : s.Ready) (ho : s.OutputsExact) {l a k b1 b2 : Nat} (hl : l < 4) (ha : 1 ≤ a) (ha' : a ≤ 63)
include h ho hl ha ha'

theorem exec_nodeBind_range (hv : serviceOf k b1 b2 = none) :
    exec (.nodeBind l a k b1 b2) s = .next (s.onlyAnswered 10 18 .range []) := by
  refine request_refused (c := .nodeBind l a k b1 b2) rfl h ho ?_
  rw [if_neg (by simp [(nodeInRange_iff l a).mpr ⟨hl, ha, ha'⟩]), hv]

theorem exec_nodeBind_conflict {v : Service} (hv : serviceOf k b1 b2 = some v)
    (htaken : (s.node ⟨l, a⟩).state ≠ .off ∨ s.bindingTaken v = true) :
    exec (.nodeBind l a k b1 b2) s = .next (s.onlyAnswered 10 18 .conflict []) := by
  refine request_refused (c := .nodeBind l a k b1 b2) rfl h ho ?_
  rw [if_neg (by simp [(nodeInRange_iff l a).mpr ⟨hl, ha, ha'⟩]), hv]
  exact if_pos htaken

theorem exec_nodeBind_done {v : Service} (hv : serviceOf k b1 b2 = some v)
    (hfree : ¬ ((s.node ⟨l, a⟩).state ≠ .off ∨ s.bindingTaken v = true)) :
    exec (.nodeBind l a k b1 b2) s = .next (State.onlyAnswered
      ((s.setNode ⟨l, a⟩ (boundNode (s.withLights v))).setLine l (s.line l).begun) 10 18 .done []) := by
  refine request_answered_exact (c := .nodeBind l a k b1 b2) (a := doneEmpty) rfl h ?_ ?_
  · rw [if_neg (by simp [(nodeInRange_iff l a).mpr ⟨hl, ha, ha'⟩]), hv]
    exact if_neg hfree
  · refine State.OutputsExact.setLine (ho.congr rfl rfl rfl rfl rfl) ?_
    show _ ↔ (s.line l).state = _
    rw [Line.begun_eq]
    split
    · next hidle => simp [hidle]
    · exact Iff.rfl

end

/-- Settles O34. -/
theorem nodeBindMakesTheNodeLive : Obligations.NodeBindMakesTheNodeLive := by
  intro s l a k b1 b2 h ho hs hl ha ha' rowOk entryOk taken
  have hservice := serviceOf_eq k b1 b2
  refine ⟨fun hbad => exec_nodeBind_range h ho hl ha ha' ?_, fun hok => ?_⟩
  · rw [hservice]
    simp only [not_or] at hbad
    obtain ⟨hrow, hentry, h2, h3, h4⟩ := hbad
    rw [if_neg hrow, if_neg hentry, if_neg h2, if_neg h3, if_neg h4]
  · obtain ⟨v, hv, hlights, htaken⟩ : ∃ v, serviceOf k b1 b2 = some v
        ∧ ((k = 1 → s.withLights v = .row b1 b2 (s.lightsOf b1 b2 none)) ∧ (k = 2 → s.withLights v = .gas)
          ∧ (k = 3 → s.withLights v = .fan) ∧ (k = 4 → s.withLights v = .sign) ∧ (k = 5 → s.withLights v = .entry b1 .ready))
        ∧ ((s.node ⟨l, a⟩).state ≠ .off ∨ s.bindingTaken v = true ↔ taken) := by
      rw [hservice]
      rcases hok with hrow | hentry | rfl | rfl | rfl
      · refine ⟨_, if_pos hrow, ?_, ?_⟩
        · simp [hrow.1, State.withLights]
        · simp [hs.bindingTaken_iff, Service.sharesBinding_row, taken, hrow.1]
      · refine ⟨.entry b1 .ready, ?_, ?_, ?_⟩
        · rw [if_neg (by simp [hentry.1]), if_pos hentry]
        · simp [hentry.1, State.withLights]
        · simp [hs.bindingTaken_iff, Service.sharesBinding_entry, taken, hentry.1]
      all_goals
        refine ⟨_, rfl, by simp [State.withLights], ?_⟩
        have hnone : ∀ v : Service, ∀ w ∈ [Service.gas, .fan, .sign], v.sharesBinding w = false := by
          intro v w hw
          cases v <;> simp at hw <;> rcases hw with rfl | rfl | rfl <;> rfl
        simp [hs.bindingTaken_iff, hnone, taken]
    refine ⟨fun ht => exec_nodeBind_conflict h ho hl ha ha' hv (htaken.mpr ht), fun hfree => ?_⟩
    obtain ⟨h1, h2, h3, h4, h5⟩ := hlights
    refine ⟨_, s.withLights v, exec_nodeBind_done h ho hl ha ha' hv (fun ht => hfree (htaken.mp ht)), rfl,
      State.node_setNode_self s _ _, h1, h2, h3, h4, h5, fun id hid hne => ?_, ?_, fun i hi => ?_⟩
    · exact (s.node_setNode ⟨l, a⟩ _ id).trans (if_neg (NodeId.key_ne hid ⟨hl, ha, ha'⟩ hne))
    · exact (State.line_setLine_self _ _ _).trans (Line.begun_eq _)
    · exact State.line_setLine_ne _ _ hi

end Sys2Proof.Machine
end

section
/-! CERTIFICATE. SIGN_SET writes the sign. -/

namespace Sys2Proof.Machine

/-! ## The value of a sign -/

theorem foldl_add_eq_sum (f : Nat → Nat) (l : List Nat) (n : Nat) : l.foldl (fun n z => n + f z) n = n + (l.map f).sum := by
  induction l generalizing n with
  | nil => rfl
  | cons z l ih => rw [List.foldl_cons, ih, List.map_cons, List.sum_cons, Nat.add_assoc]

/-- The counted value of a zone set is the sum over it, capped (R150). -/
theorem State.signCount_eq (s : State) (zs : ZoneSet) (f : ClassFilter) :
    s.signCount zs f = min 999 (((List.range 32).filter fun z => zs.getLsbD z).map fun z =>
      f.countOf (s.zone z).tallies).sum := by
  rw [State.signCount, foldl_add_eq_sum, Nat.zero_add]
  rfl

/-! ## The checks of SIGN_SET -/

theorem SignMode.ofCode_of_le {k : Nat} (h : k ≤ 2) : ∃ m, SignMode.ofCode k = some m ∧ m.code = k := by
  match k with
  | 0 => exact ⟨.off, rfl, rfl⟩
  | 1 => exact ⟨.count, rfl, rfl⟩
  | 2 => exact ⟨.text, rfl, rfl⟩

theorem SignMode.ofCode_eq_none {k : Nat} (h : 2 < k) : SignMode.ofCode k = none := by
  match k with
  | _ + 3 => rfl

theorem ClassFilter.ofCode_of_le {f : Nat} (h : f ≤ 4) : ∃ c, ClassFilter.ofCode f = some c ∧ c.code = f := by
  match f with
  | 0 => exact ⟨.all, rfl, rfl⟩
  | 1 => exact ⟨.standard, rfl, rfl⟩
  | 2 => exact ⟨.compact, rfl, rfl⟩
  | 3 => exact ⟨.accessible, rfl, rfl⟩
  | 4 => exact ⟨.charging, rfl, rfl⟩

theorem ClassFilter.ofCode_eq_none {f : Nat} (h : 4 < f) : ClassFilter.ofCode f = none := by
  match f with
  | _ + 5 => rfl

theorem signRange_iff (i l a : Nat) (text : List Byte) : signRange i l a text = true ↔
    i < 32 ∧ (a = 0 ∨ (l < 4 ∧ 1 ≤ a ∧ a ≤ 63)) ∧ text.length ≤ 16 ∧ ∀ b ∈ text, 32 ≤ b.toNat ∧ b.toNat ≤ 126 := by
  simp only [signRange, Bool.and_eq_true, Bool.or_eq_true, decide_eq_true_eq, nodeInRange_iff, List.all_eq_true, textChar,
    within_iff, and_assoc]
  exact Iff.rfl

theorem State.Legal.signNodeBound_iff {s : State} (h : s.Legal) (l a : Nat) :
    s.signNodeBound (signNode l a) = true ↔ a = 0 ∨ (s.node ⟨l, a⟩).service = .sign := by
  unfold signNode
  split
  · next h0 => simp [State.signNodeBound, h0]
  · next h0 =>
    simp only [State.signNodeBound, Bool.and_eq_true, decide_eq_true_eq, h0, false_or, and_iff_right_iff_imp]
    exact fun hsign => h.on_of_kind (k := .sign) (by rw [hsign]; rfl)

theorem State.zonesInUse_iff (s : State) (zs : ZoneSet) :
    ((zonesOf zs).all fun z => (s.zone z).inUse) = true ↔ ∀ z, z < 32 → zs.getLsbD z = true → (s.zone z).inUse = true := by
  simp only [zonesOf, zoneNumbers, List.all_eq_true, List.mem_filter, List.mem_range, and_imp]
  exact Iff.rfl

theorem State.signNodeFree_iff (s : State) (i l a : Nat) : s.signNodeFree i (signNode l a) = true ↔
    a = 0 ∨ ∀ j, j < 32 → j ≠ i → (s.sign j).node ≠ some ⟨l, a⟩ := by
  unfold signNode
  split
  · next h0 => simp [State.signNodeFree, h0]
  · next h0 =>
    simp only [State.signNodeFree, signNumbers, List.all_eq_true, List.mem_range, Bool.or_eq_true, decide_eq_true_eq, h0,
      Classical.or_iff_not_imp_left, not_false_eq_true, forall_const]
    exact Iff.rfl

/-! ## The sign written -/

theorem State.writeSign_eq (s : State) (i : Nat) (g : Sign) :
    s.writeSign i g = { s with signs := (s.writeSign i g).signs, nodes := (s.writeSign i g).nodes } := by
  unfold State.writeSign
  rw [State.markSignNode_eq, State.markSignNode_eq]
  rfl

theorem State.sign_writeSign (s : State) (i : Nat) (g : Sign) (j : Nat) :
    (s.writeSign i g).sign j = if j = i then { g with value := s.signCount g.zones g.filter } else s.sign j := by
  unfold State.writeSign
  rw [State.markSignNode_eq, State.markSignNode_eq]
  exact State.sign_setSign _ _ _ _

/-- The nodes that the sign named and names are marked (R155). -/
theorem State.node_writeSign (s : State) (i : Nat) (g : Sign) (j : NodeId) :
    (s.writeSign i g).node j =
      if (s.sign i).node.map NodeId.key = some j.key ∨ g.node.map NodeId.key = some j.key then (s.node j).marked
      else s.node j := by
  unfold State.writeSign
  rw [State.node_markSignNode, State.node_markSignNode, State.setSign_node]
  by_cases h1 : (s.sign i).node.map NodeId.key = some j.key <;> by_cases h2 : g.node.map NodeId.key = some j.key <;>
    simp [h1, h2, Node.marked_marked]

/-- Among addresses that exist a number names one node. -/
theorem map_key_eq {o : Option NodeId} (ho : ∀ id ∈ o, id.Exists) {j : NodeId} (hj : j.Exists) :
    o.map NodeId.key = some j.key ↔ some j = o := by
  cases o with
  | none => simp
  | some id =>
    simp only [Option.map_some, Option.some.injEq]
    exact ⟨fun hk => Classical.byContradiction fun hne => NodeId.key_ne hj (ho id rfl) hne hk.symm, fun h => h ▸ rfl⟩

/-- Settles O56. -/
theorem signSetWritesTheSign : Obligations.SignSetWritesTheSign := by
  intro s i l a k f zs text h ho clocked node good bound inUse once hs
  have hclocked : 5 + ([u8 i, u8 l, u8 a, u8 k] ++ zoneSetBytes zs ++ [u8 f, u8 text.length] ++ text).length = clocked := by
    simp only [zoneSetBytes, List.length_append, List.length_cons, List.length_nil, clocked]
    omega
  have hrange := signRange_iff i l a text
  have hbound : s.signNodeBound (signNode l a) = true ↔ bound := hs.signNodeBound_iff l a
  have huse := s.zonesInUse_iff zs
  have honce : s.signNodeFree i (signNode l a) = true ↔ once := s.signNodeFree_iff i l a
  refine ⟨fun hbad => ?range, fun hgood hno => ?state, fun hgood hb hno => ?free, fun hgood hb hu hno => ?conflict,
    fun hgood hb hu hc => ?written⟩
  case range =>
    rw [← hclocked]
    refine request_refused (c := .signSet i l a k zs f text) rfl h ho ?_
    by_cases hk : k ≤ 2
    · obtain ⟨m, hm, -⟩ := SignMode.ofCode_of_le hk
      by_cases hf : f ≤ 4
      · obtain ⟨c, hc, -⟩ := ClassFilter.ofCode_of_le hf
        simp only [hm, hc]
        refine if_pos (Bool.eq_false_iff.mpr fun hin => hbad ?_)
        obtain ⟨hi, hnode, hlen, htext⟩ := hrange.mp hin
        exact ⟨hi, hnode, hk, hf, hlen, htext⟩
      · simp only [hm, ClassFilter.ofCode_eq_none (Nat.lt_of_not_le hf)]
    · rw [SignMode.ofCode_eq_none (Nat.lt_of_not_le hk)]
      cases ClassFilter.ofCode f <;> rfl
  all_goals
    obtain ⟨hi, hnode, hk, hf, hlen, htext⟩ := hgood
    obtain ⟨m, hm, hmcode⟩ := SignMode.ofCode_of_le hk
    obtain ⟨c, hcf, hccode⟩ := ClassFilter.ofCode_of_le hf
    have hin := hrange.mpr ⟨hi, hnode, hlen, htext⟩
  case state =>
    rw [← hclocked]
    refine request_refused (c := .signSet i l a k zs f text) rfl h ho ?_
    simp only [hm, hcf, hin]
    exact if_pos (Bool.eq_false_iff.mpr fun ht => hno (hbound.mp ht))
  case free =>
    rw [← hclocked]
    refine request_refused (c := .signSet i l a k zs f text) rfl h ho ?_
    simp only [hm, hcf, hin, hbound.mpr hb]
    exact if_pos (Bool.eq_false_iff.mpr fun ht => hno (huse.mp ht))
  case conflict =>
    rw [← hclocked]
    refine request_refused (c := .signSet i l a k zs f text) rfl h ho ?_
    simp only [hm, hcf, hin, hbound.mpr hb, huse.mpr hu]
    exact if_pos (Bool.eq_false_iff.mpr fun ht => hno (honce.mp ht))
  case written =>
    let g : Sign := { node := signNode l a, mode := m, zones := zs, filter := c, text := text, value := 0 }
    have hwrite := s.writeSign_eq i g
    have hexact : (s.writeSign i g).OutputsExact := by
      rw [hwrite]
      exact ho.congr rfl rfl rfl rfl rfl
    have hsign : (s.writeSign i g).sign i = { g with value := s.signCount zs c } :=
      (s.sign_writeSign i g i).trans (if_pos rfl)
    have hnodes : ∀ id ∈ g.node, id.Exists := by
      intro id hid
      simp only [g, signNode] at hid
      split at hid
      · cases hid
      · next h0 =>
        cases hid
        exact hnode.resolve_left h0
    refine ⟨(s.writeSign i g).onlyAnswered clocked 29 .done (u16 (s.signCount zs c)), ?_, ?_, ?_⟩
    · rw [← hclocked]
      refine request_answered_exact (c := .signSet i l a k zs f text) (a := ⟨.done, _⟩) rfl h ?_ hexact
      simp only [hm, hcf, hin, hbound.mpr hb, huse.mpr hu, honce.mpr hc]
      rfl
    · have hvalue : (((s.writeSign i g).onlyAnswered clocked 29 .done (u16 (s.signCount zs c))).sign i).value
          = s.signCount zs c := congrArg Sign.value hsign
      rw [hvalue]
      exact congrArg (fun t : State => t.onlyAnswered clocked 29 .done (u16 (s.signCount zs c))) hwrite
    · have hfield : ((s.writeSign i g).onlyAnswered clocked 29 .done (u16 (s.signCount zs c))).sign i
          = { g with value := s.signCount zs c } := hsign
      rw [hfield]
      refine ⟨rfl, hmcode, rfl, hccode, rfl, s.signCount_eq zs c, fun j hj => ?_, fun id hid => ?_⟩
      · exact (s.sign_writeSign i g j).trans (if_neg hj)
      · refine (s.node_writeSign i g id).trans ?_
        have hnamed : Option.map NodeId.key g.node = some id.key ↔ some id = node := map_key_eq hnodes hid
        simp only [map_key_eq (hs.sign i).1 hid, hnamed]
        by_cases hoff : (s.node id).state = .off
        · simp [hoff, Node.marked_off]
        · rw [Node.marked_on hoff]
          simp only [hoff, ne_eq, not_false_eq_true, and_true]

end Sys2Proof.Machine
end

section
/-! SUPPORT. What the ventilation unit's operations on one zone record keep: the fans named, the kinds in the pending set, and
exact figures, through every branch of the sequencer. -/

namespace Sys2Proof.Machine

theorem raised_onlyKindsOf {kinds mask m : EventSet} (hmask : onlyKindsOf kinds mask = true)
    (hm : onlyKindsOf kinds m = true) (k : EventKind) : onlyKindsOf kinds (raised mask k m) = true := by
  unfold raised
  split
  · next hk =>
    simp only [onlyKindsOf, decide_eq_true_eq] at hmask hm ⊢
    refine BitVec.eq_of_getLsbD_eq fun i hi => ?_
    have hmask' := congrArg (fun v : EventSet => v.getLsbD i) hmask
    have hm' := congrArg (fun v : EventSet => v.getLsbD i) hm
    simp only [EventKind.addTo, BitVec.getLsbD_and, BitVec.getLsbD_or, BitVec.getLsbD_not, hi, BitVec.getLsbD_zero] at hmask' hm' ⊢
    by_cases hik : i = k.bit
    · subst hik
      simp only [EventKind.isIn] at hk
      simp_all
    · have hbit : (1#16 <<< k.bit).getLsbD i = false := by
        have := k.bit_lt
        grind
      simp only [hbit, Bool.or_false] at hm' ⊢
      exact hm'
  · exact hm

/-- What a change of record `x` to `y` by the ventilation unit keeps of the fans it names, the kinds of its pending set and
its figures. -/
structure Zone.Runs (x y : Zone) : Prop where
  cfg : y.cfg = x.cfg
  names : y.stages.map (·.node) = x.stages.map (·.node)
  pending : onlyKindsOf zoneKinds x.cfg.mask = true → onlyKindsOf zoneKinds x.pending = true →
    onlyKindsOf zoneKinds y.pending = true
  figures : x.FiguresExact → y.FiguresExact

theorem Zone.Runs.refl (x : Zone) : x.Runs x := ⟨rfl, rfl, fun _ h => h, id⟩

theorem Zone.Runs.trans {x y z : Zone} (h : x.Runs y) (k : y.Runs z) : x.Runs z :=
  ⟨k.cfg.trans h.cfg, k.names.trans h.names, fun hm hp => k.pending (h.cfg ▸ hm) (h.pending hm hp), k.figures ∘ h.figures⟩

theorem Zone.figures_runs (z : Zone) : z.Runs z.figures := ⟨rfl, rfl, fun _ h => h, fun _ => z.figures_exact⟩

theorem Zone.raise_runs (z : Zone) (k : EventKind) : z.Runs (z.raise k) :=
  ⟨rfl, rfl, fun hm hp => raised_onlyKindsOf hm hp k, id⟩

theorem Zone.raiseIf_runs (z : Zone) (b : Bool) (k : EventKind) : z.Runs (z.raiseIf b k) := by
  cases b
  · exact .refl z
  · exact z.raise_runs k

theorem Zone.changeStage_names {f : Stage → Stage} (hnode : ∀ g, (f g).node = g.node) (z : Zone) (i : Nat) :
    (z.changeStage i f).stages.map (·.node) = z.stages.map (·.node) := map_changeAt hnode _ _

/-- A stage changed that neither was nor is RUNNING. -/
theorem Zone.changeStage_runs {z : Zone} {i : Nat} {f : Stage → Stage} (hnode : ∀ g, (f g).node = g.node)
    (hf : ∀ g, z.stages[i]? = some g → g.status ≠ .running ∧ (f g).status ≠ .running) : z.Runs (z.changeStage i f) :=
  ⟨rfl, Zone.changeStage_names hnode z i, fun _ h => h, fun h => h.changeStage i f hf⟩

/-- A stage changed, with the figures recomputed after it. -/
theorem Zone.changeStage_figures_runs {z : Zone} {i : Nat} {f : Stage → Stage} (hnode : ∀ g, (f g).node = g.node) :
    z.Runs (z.changeStage i f).figures :=
  ⟨rfl, Zone.changeStage_names hnode z i, fun _ h => h, fun _ => Zone.figures_exact _⟩

/-- Fields of the sequencer written. -/
theorem Zone.setSequencer_runs (z : Zone) (seq : SeqState) (dwell : Nat) (sequence : Option Sequence) (shortHold : Bool)
    (last : LastSequence) :
    z.Runs { z with seq := seq, dwell := dwell, sequence := sequence, shortHold := shortHold, last := last } :=
  ⟨rfl, rfl, fun _ h => h, id⟩

theorem Zone.countStep_runs (z : Zone) : z.Runs z.countStep := by
  unfold Zone.countStep
  split
  · exact z.setSequencer_runs _ _ _ _ _
  · exact .refl z

theorem Zone.endSequence_runs (z : Zone) (o : SeqOutcome) : z.Runs (z.endSequence o) := by
  unfold Zone.endSequence
  split
  · exact z.setSequencer_runs _ _ _ _ _
  · exact .refl z

theorem Zone.endShort_runs (z : Zone) : z.Runs z.endShort :=
  ((z.endSequence_runs .short).trans (Zone.raise_runs _ .stageShort)).trans (Zone.setSequencer_runs _ .idle _ _ true _)

/-- The stage that a step up starts was IDLE. -/
theorem Zone.startIdle_runs {z : Zone} {i : Nat} (hi : firstPlace (fun g => decide (g.status = .idle)) z.stages = some i)
    (ticks : Nat) : z.Runs (z.changeStage i (Stage.start ticks)) :=
  Zone.changeStage_runs (fun _ => rfl) fun g hg => by
    have hidle := firstPlace_meets _ _ i hi g hg
    simp only [decide_eq_true_eq] at hidle
    simp [hidle, Stage.start]

theorem Zone.stepUp_runs (z : Zone) : z.Runs z.stepUp := by
  unfold Zone.stepUp
  split
  · next i hi => exact (Zone.startIdle_runs hi _).trans (Zone.setSequencer_runs _ .stepUp _ _ _ _)
  · exact z.endShort_runs

theorem Zone.stepDown_runs (z : Zone) : z.Runs z.stepDown := by
  unfold Zone.stepDown
  split
  · exact ⟨rfl, Zone.changeStage_names (f := Stage.stop z.cfg.rundownTicks) (fun _ => rfl) z _, fun _ h => h,
      fun _ => Zone.figures_exact _⟩
  · exact .refl z

theorem Zone.step_runs (z : Zone) (d : Direction) : z.Runs (z.step d) := by
  cases d
  · exact z.stepUp_runs
  · exact z.stepDown_runs

theorem Zone.beginSequence_runs (z : Zone) : z.Runs z.beginSequence :=
  (z.setSequencer_runs _ _ _ _ _).trans (Zone.step_runs _ _)

theorem Zone.reEvaluate_runs (z : Zone) : z.Runs z.reEvaluate := by
  unfold Zone.reEvaluate
  split
  · split
    · exact .refl z
    · exact z.beginSequence_runs
  · split
    · exact z.endSequence_runs .done
    · split
      · exact (z.setSequencer_runs _ _ _ _ _).trans (Zone.step_runs _ _)
      · exact (z.endSequence_runs .cut).trans (Zone.beginSequence_runs _)

theorem Zone.enterIdle_runs (z : Zone) : z.Runs z.enterIdle :=
  (z.setSequencer_runs .idle 0 _ _ _).trans (Zone.reEvaluate_runs _)

theorem Zone.enterDwell_runs (z : Zone) (n : Nat) : z.Runs (z.enterDwell n) := by
  unfold Zone.enterDwell
  split
  · exact z.enterIdle_runs
  · exact z.setSequencer_runs _ _ _ _ _

theorem Zone.tellSequencer_runs (z : Zone) : z.Runs z.tellSequencer := by
  unfold Zone.tellSequencer
  split
  · exact (z.setSequencer_runs _ _ _ false _).trans (Zone.reEvaluate_runs _)
  · exact .refl z

theorem Zone.demandChange_runs (z : Zone) (p : Bool) : z.Runs (z.demandChange p) := by
  unfold Zone.demandChange
  refine z.figures_runs.trans ?_
  dsimp only
  split
  · exact Zone.enterIdle_runs _
  · split
    · exact .refl _
    · exact Zone.tellSequencer_runs _

theorem Zone.stepUpFailed_runs (z : Zone) : z.Runs z.stepUpFailed := by
  unfold Zone.stepUpFailed
  split
  · split
    · next i hi => exact Zone.startIdle_runs hi _
    · exact z.endShort_runs
  · exact z.enterIdle_runs

theorem Zone.stepDownEnded_runs (z : Zone) : z.Runs z.stepDownEnded := z.countStep_runs.trans (Zone.enterDwell_runs _ _)

/-- The status read at a place is that of the stage there. -/
theorem Zone.statusAt_eq {z : Zone} {i : Nat} {g : Stage} (h : z.stages[i]? = some g) : z.statusAt i = g.status := by
  simp only [Zone.statusAt, h]

theorem Zone.faultStage_runs (z : Zone) (i : Nat) (c : Cause) : z.Runs (z.faultStage i c) := by
  have hfail : z.statusAt i ≠ .running → z.Runs ((z.changeStage i (Stage.fail c)).raise .fanFault) := fun h =>
    (Zone.changeStage_runs (f := Stage.fail c) (fun _ => rfl) fun g hg =>
      ⟨by rw [← Zone.statusAt_eq hg]; exact h, nofun⟩).trans (Zone.raise_runs _ _)
  unfold Zone.faultStage
  dsimp only
  split
  · next h => exact (hfail (by simp [h])).trans (Zone.tellSequencer_runs _)
  · next h => exact (hfail (by simp [h])).trans (Zone.stepUpFailed_runs _)
  · refine .trans ?_ (Zone.tellSequencer_runs _)
    exact ⟨rfl, Zone.changeStage_names (f := Stage.fail c) (fun _ => rfl) z i, fun hm hp => raised_onlyKindsOf hm hp _,
      fun _ => Zone.figures_exact _⟩
  · next h => exact (hfail (by simp [h])).trans (Zone.stepDownEnded_runs _)
  · exact .refl z

theorem Zone.proveStage_runs (z : Zone) (i : Nat) : z.Runs (z.proveStage i) := by
  unfold Zone.proveStage
  split
  · exact (Zone.changeStage_figures_runs (f := Stage.run) fun _ => rfl).trans ((Zone.countStep_runs _).trans (Zone.enterDwell_runs _ _))
  all_goals exact .refl z

theorem Zone.silenceStage_runs (z : Zone) (i : Nat) : z.Runs (z.silenceStage i) := by
  unfold Zone.silenceStage
  split
  · exact z.faultStage_runs i .silent
  · exact z.faultStage_runs i .silent
  all_goals exact .refl z

theorem Zone.fanReading_runs (z : Zone) (i : Nat) (proof trip : Bool) : z.Runs (z.fanReading i proof trip) := by
  unfold Zone.fanReading
  split
  · exact z.faultStage_runs i .trip
  · split
    · exact z.proveStage_runs i
    · exact .refl z

theorem Zone.resetStage_runs {z : Zone} {i : Nat} (h : z.statusAt i = .faulted) : z.Runs (z.resetStage i) := by
  have hrest : z.Runs (z.changeStage i Stage.rest) :=
    Zone.changeStage_runs (fun _ => rfl) fun g hg => by simp [← Zone.statusAt_eq hg, h, Stage.rest]
  exact (hrest.trans (Zone.setSequencer_runs _ _ _ _ false _)).trans (Zone.tellSequencer_runs _)

theorem Zone.rundownEnd_runs {z : Zone} {i : Nat} (h : z.statusAt i = .stopping) : z.Runs (z.rundownEnd i) := by
  have hrest : z.Runs (z.changeStage i Stage.rest) :=
    Zone.changeStage_runs (fun _ => rfl) fun g hg => by simp [← Zone.statusAt_eq hg, h, Stage.rest]
  exact hrest.trans (Zone.stepDownEnded_runs _)

theorem Zone.takeTallies_runs (z : Zone) (t : Tallies) : z.Runs (z.takeTallies t) := by
  have hraise : ∀ b c, ({ z with tallies := t } : Zone).Runs ((({ z with tallies := t } : Zone).raiseIf b .full).raiseIf c .opened) :=
    fun _ _ => (Zone.raiseIf_runs _ _ _).trans (Zone.raiseIf_runs _ _ _)
  have h : ({ z with tallies := t } : Zone).Runs (z.takeTallies t) := by
    unfold Zone.takeTallies
    dsimp only
    split
    · exact (hraise _ _).trans (Zone.demandChange_runs _ _)
    · exact hraise _ _
  exact ⟨h.cfg, h.names, h.pending, (z.takeTallies_keeps t).figures⟩

end Sys2Proof.Machine
end

section
/-! SUPPORT. The sequencer stays legal: no stage in a step at rest, one in the step that starts, through every branch of the
re-evaluation (R114, R117, R120 to R124). -/

namespace Sys2Proof.Machine

theorem zoneParams_ticks {c : ZoneParams} (h : zoneParamsInRange c = true) :
    c.proofTicks ≤ 600 ∧ c.rundownTicks ≤ 600 ∧ c.dwellUp ≤ 3000 ∧ c.dwellDown ≤ 3000 := by
  simp only [zoneParamsInRange, Bool.and_eq_true, within_iff] at h
  omega

/-! ## Stages -/

theorem Stage.start_legal {n : Nat} (h : n ≤ 600) (g : Stage) : (Stage.start n g).Legal := by simp [Stage.Legal, Stage.start, h]

theorem Stage.stop_legal {n : Nat} (h : n ≤ 600) (g : Stage) : (Stage.stop n g).Legal := by simp [Stage.Legal, Stage.stop, h]

theorem Stage.run_legal (g : Stage) : (Stage.run g).Legal := by simp [Stage.Legal, Stage.run]

theorem Stage.rest_legal (g : Stage) : (Stage.rest g).Legal := by simp [Stage.Legal, Stage.rest]

theorem Stage.fail_legal (c : Cause) (g : Stage) : (Stage.fail c g).Legal := by simp [Stage.Legal, Stage.fail]

/-- How the number of stages of a status moves when one stage changes. -/
theorem Zone.countStages_changeStage {z : Zone} {i : Nat} {g : Stage} (f : Stage → Stage) (hg : z.stages[i]? = some g)
    (x : StageStatus) : (z.changeStage i f).countStages x + (decide (g.status = x)).toNat
      = z.countStages x + (decide ((f g).status = x)).toNat := countP_changeAt_add _ f hg

theorem Zone.changeStage_stages_legal {z : Zone} {i : Nat} {f : Stage → Stage} (h : ∀ g ∈ z.stages, g.Legal)
    (hf : ∀ g, (f g).Legal) : ∀ g ∈ (z.changeStage i f).stages, g.Legal := by
  intro g hg
  rcases mem_changeAt hg with hmem | ⟨x, -, rfl⟩
  · exact h g hmem
  · exact hf x

theorem Zone.countStages_pos {z : Zone} {i : Nat} {g : Stage} {x : StageStatus} (hg : z.stages[i]? = some g)
    (hx : g.status = x) : 0 < z.countStages x :=
  List.countP_pos_iff.mpr ⟨g, List.mem_of_getElem? hg, by simp [hx]⟩

/-! ## A zone with no stage in a step -/

/-- No stage of the zone is STARTING or STOPPING. -/
structure Zone.AtRest (z : Zone) : Prop where
  stages : ∀ g ∈ z.stages, g.Legal
  starting : z.countStages .starting = 0
  stopping : z.countStages .stopping = 0
  steps : ∀ q ∈ z.sequence, q.steps ≤ 4
  last : z.last.steps ≤ 4
  cfg : zoneParamsInRange z.cfg = true

theorem Zone.AtRest.idle {z : Zone} (h : z.AtRest) (hseq : z.seq = .idle) (hdwell : z.dwell = 0) (hnone : z.sequence = none) :
    z.SequencerLegal :=
  ⟨h.stages, by simp [h.starting, hseq], by simp [h.stopping, hseq], by simp [hseq, hnone], .inr hdwell, by omega, h.steps,
   h.last⟩

/-- Outside a step a legal zone is at rest (R120). -/
theorem Zone.SequencerLegal.atRest {z : Zone} (h : z.SequencerLegal) (hc : zoneParamsInRange z.cfg = true)
    (hup : z.seq ≠ .stepUp) (hdown : z.seq ≠ .stepDown) : z.AtRest := by
  obtain ⟨hstages, hstarting, hstopping, -, -, -, hsteps, hlast⟩ := h
  exact ⟨hstages, hstarting.trans (if_neg hup), hstopping.trans (if_neg hdown), hsteps, hlast, hc⟩

/-- Fields of the sequencer written. -/
theorem Zone.AtRest.setSequencer {z : Zone} (h : z.AtRest) (seq : SeqState) (dwell : Nat) {sequence : Option Sequence}
    (hq : ∀ q ∈ sequence, q.steps ≤ 4) (shortHold : Bool) {last : LastSequence} (hlast : last.steps ≤ 4) :
    Zone.AtRest { z with seq := seq, dwell := dwell, sequence := sequence, shortHold := shortHold, last := last } :=
  ⟨h.stages, h.starting, h.stopping, hq, hlast, h.cfg⟩

theorem Zone.AtRest.raise {z : Zone} (h : z.AtRest) (k : EventKind) : (z.raise k).AtRest :=
  ⟨h.stages, h.starting, h.stopping, h.steps, h.last, h.cfg⟩

theorem Zone.AtRest.figures {z : Zone} (h : z.AtRest) : z.figures.AtRest :=
  ⟨h.stages, h.starting, h.stopping, h.steps, h.last, h.cfg⟩

/-! ## The steps -/

theorem Zone.endSequence_some {z : Zone} {q : Sequence} (hq : z.sequence = some q) (o : SeqOutcome) :
    z.endSequence o = { z with sequence := none, last := ⟨q.origin, q.goal, q.steps, o⟩ } := by
  simp only [Zone.endSequence, hq]

/-- A sequence that ends leaves the zone at rest with no sequence. -/
theorem Zone.AtRest.endSequence {z : Zone} (h : z.AtRest) {q : Sequence} (hq : z.sequence = some q) (o : SeqOutcome) :
    (z.endSequence o).AtRest := by
  rw [Zone.endSequence_some hq]
  exact h.setSequencer z.seq z.dwell (by simp) z.shortHold (h.steps q hq)

theorem Zone.AtRest.endShort {z : Zone} (h : z.AtRest) (hdwell : z.dwell = 0) {q : Sequence} (hq : z.sequence = some q) :
    z.endShort.SequencerLegal := by
  have hended := (h.endSequence hq .short).raise .stageShort
  unfold Zone.endShort
  rw [Zone.endSequence_some hq] at hended ⊢
  exact (hended.setSequencer .idle z.dwell hended.steps true hended.last).idle rfl hdwell rfl

/-- The one stage that a step up starts (R121). -/
theorem Zone.AtRest.started {z : Zone} (h : z.AtRest) (hdwell : z.dwell = 0) (hq : z.sequence.isSome = true) {i : Nat}
    (hi : firstPlace (fun g => decide (g.status = .idle)) z.stages = some i) :
    Zone.SequencerLegal { z.changeStage i (Stage.start z.cfg.proofTicks) with seq := .stepUp } := by
  obtain ⟨⟨g, hg, hidle⟩, -⟩ := firstPlace_eq_some.mp hi
  have hidle : g.status = .idle := by simpa using hidle
  have hcount := Zone.countStages_changeStage (Stage.start z.cfg.proofTicks) hg
  have hstarting := hcount .starting
  have hstopping := hcount .stopping
  simp only [hidle, Stage.start, h.starting, h.stopping] at hstarting hstopping
  refine ⟨Zone.changeStage_stages_legal h.stages (Stage.start_legal (zoneParams_ticks h.cfg).1), hstarting, hstopping, ?_,
    .inr hdwell, Nat.le_trans (Nat.le_of_eq hdwell) (by omega), h.steps, h.last⟩
  exact iff_of_true hq nofun

theorem Zone.AtRest.stepUp {z : Zone} (h : z.AtRest) (hdwell : z.dwell = 0) (hq : z.sequence.isSome = true) :
    z.stepUp.SequencerLegal := by
  unfold Zone.stepUp
  split
  · next i hi => exact h.started hdwell hq hi
  · obtain ⟨q, hq⟩ := Option.isSome_iff_exists.mp hq
    exact h.endShort hdwell hq

/-- With a stage RUNNING a step down finds one to stop (R123). -/
theorem Zone.AtRest.stepDown {z : Zone} (h : z.AtRest) (hdwell : z.dwell = 0) (hq : z.sequence.isSome = true)
    (hc : 0 < z.c) : z.stepDown.SequencerLegal := by
  unfold Zone.stepDown
  split
  · next i hi =>
    obtain ⟨⟨g, hg, hrun⟩, -⟩ := lastPlace_meets hi
    have hrun : g.status = .running := by simpa using hrun
    have hcount := Zone.countStages_changeStage (Stage.stop z.cfg.rundownTicks) hg
    have hstarting := hcount .starting
    have hstopping := hcount .stopping
    simp only [hrun, Stage.stop, h.starting, h.stopping] at hstarting hstopping
    obtain ⟨-, hticks, -⟩ := zoneParams_ticks h.cfg
    refine ⟨Zone.changeStage_stages_legal h.stages (Stage.stop_legal hticks), hstarting, hstopping, ?_,
      .inr hdwell, Nat.le_trans (Nat.le_of_eq hdwell) (by omega), h.steps, h.last⟩
    exact iff_of_true hq nofun
  · next hnone =>
    obtain ⟨g, hg, hrun⟩ := List.countP_pos_iff.mp hc
    exact absurd hrun (by simp [lastPlace_eq_none.mp hnone g hg])

theorem Zone.AtRest.step {z : Zone} (h : z.AtRest) (hdwell : z.dwell = 0) (hq : z.sequence.isSome = true) {d : Direction}
    (hside : z.onSide d = true) : (z.step d).SequencerLegal := by
  cases d with
  | up => exact h.stepUp hdwell hq
  | down => exact h.stepDown hdwell hq (Nat.zero_lt_of_lt (of_decide_eq_true hside))

theorem Zone.AtRest.beginSequence {z : Zone} (h : z.AtRest) (hdwell : z.dwell = 0) (hne : z.target ≠ z.c) :
    z.beginSequence.SequencerLegal := by
  have hset : ∀ d, Zone.AtRest { z with sequence := some ⟨d, z.c, z.target, 0⟩ } := fun d =>
    h.setSequencer z.seq z.dwell (by simp) z.shortHold h.last
  unfold Zone.beginSequence
  dsimp only
  split
  · exact (hset .up).stepUp hdwell rfl
  · next hge => exact (hset .down).stepDown hdwell rfl (show 0 < z.c by omega)

/-! ## Re-evaluation -/

theorem Zone.AtRest.reEvaluate {z : Zone} (h : z.AtRest) (hseq : z.seq = .idle) (hdwell : z.dwell = 0) :
    z.reEvaluate.SequencerLegal := by
  unfold Zone.reEvaluate
  split
  · next hnone =>
    split
    · exact h.idle hseq hdwell hnone
    · next hgo => exact h.beginSequence hdwell fun heq => hgo (.inl heq)
  · next q hq =>
    split
    · have hended := h.endSequence hq .done
      rw [Zone.endSequence_some hq] at hended ⊢
      exact hended.idle hseq hdwell rfl
    · next hne =>
      split
      · next hside =>
        have hset : Zone.AtRest { z with sequence := some { q with goal := z.target } } :=
          h.setSequencer z.seq z.dwell (by simpa using h.steps q hq) z.shortHold h.last
        exact hset.step hdwell rfl hside
      · have hended := h.endSequence hq .cut
        rw [Zone.endSequence_some hq] at hended ⊢
        exact hended.beginSequence hdwell hne

theorem Zone.AtRest.enterIdle {z : Zone} (h : z.AtRest) : z.enterIdle.SequencerLegal :=
  (h.setSequencer .idle 0 h.steps z.shortHold h.last).reEvaluate rfl rfl

theorem Zone.AtRest.enterDwell {z : Zone} (h : z.AtRest) (hq : z.sequence.isSome = true) {n : Nat} (hn : n ≤ 3000) :
    (z.enterDwell n).SequencerLegal := by
  unfold Zone.enterDwell
  split
  · exact h.enterIdle
  · exact ⟨h.stages, h.starting, h.stopping, iff_of_true hq nofun, .inl rfl, hn, h.steps, h.last⟩

/-- An IDLE sequencer told of a change re-evaluates; any other goes on (R120). -/
theorem Zone.SequencerLegal.tellSequencer {z : Zone} (h : z.SequencerLegal) (hc : zoneParamsInRange z.cfg = true) :
    z.tellSequencer.SequencerLegal := by
  unfold Zone.tellSequencer
  split
  · next hidle =>
    have hrest := h.atRest hc (by simp [hidle]) (by simp [hidle])
    obtain ⟨-, -, -, -, hdwell, -⟩ := h
    exact (hrest.setSequencer z.seq z.dwell hrest.steps false hrest.last).reEvaluate hidle
      (hdwell.resolve_left (by simp [hidle]))
  · exact h

theorem Zone.SequencerLegal.figures {z : Zone} (h : z.SequencerLegal) : z.figures.SequencerLegal := h

theorem Zone.SequencerLegal.raise {z : Zone} (h : z.SequencerLegal) (k : EventKind) : (z.raise k).SequencerLegal := h

theorem Zone.SequencerLegal.raiseIf {z : Zone} (h : z.SequencerLegal) (b : Bool) (k : EventKind) :
    (z.raiseIf b k).SequencerLegal := by
  cases b
  · exact h
  · exact h.raise k

theorem Zone.SequencerLegal.demandChange {z : Zone} (h : z.SequencerLegal) (hc : zoneParamsInRange z.cfg = true) (p : Bool) :
    (z.demandChange p).SequencerLegal := by
  have hfigures : z.figures.SequencerLegal := h.figures
  unfold Zone.demandChange
  dsimp only
  split
  · next hdwell => exact (hfigures.atRest hc (by simp [hdwell.1]) (by simp [hdwell.1])).enterIdle
  · split
    · exact hfigures
    · exact hfigures.tellSequencer hc

theorem Zone.SequencerLegal.takeTallies {z : Zone} (h : z.SequencerLegal) (hc : zoneParamsInRange z.cfg = true)
    (t : Tallies) : (z.takeTallies t).SequencerLegal := by
  have hraise : ∀ b c, ((({ z with tallies := t } : Zone).raiseIf b .full).raiseIf c .opened).SequencerLegal := fun b c =>
    (Zone.SequencerLegal.raiseIf (z := { z with tallies := t }) h b .full).raiseIf c .opened
  unfold Zone.takeTallies
  dsimp only
  split
  · refine (hraise _ _).demandChange ?_ _
    rw [(Zone.raiseIf_inputs _ _ _).air.cfg, (Zone.raiseIf_inputs _ _ _).air.cfg]
    exact hc
  · exact hraise _ _

/-! ## What reaches a stage -/

theorem nextStepCount_le (n : Nat) : nextStepCount n ≤ 4 := by
  unfold nextStepCount
  split
  · omega
  · exact Nat.min_le_left _ _

theorem Zone.AtRest.countStep {z : Zone} (h : z.AtRest) : z.countStep.AtRest := by
  unfold Zone.countStep
  split
  · exact h.setSequencer z.seq z.dwell (by simpa using nextStepCount_le _) z.shortHold h.last
  · exact h

theorem Zone.countStep_isSome (z : Zone) : z.countStep.sequence.isSome = z.sequence.isSome := by
  unfold Zone.countStep
  split
  · next h => simp [h]
  · rfl

theorem Zone.AtRest.stepDownEnded {z : Zone} (h : z.AtRest) (hq : z.sequence.isSome = true) :
    z.stepDownEnded.SequencerLegal := by
  obtain ⟨-, -, -, hdwell⟩ := zoneParams_ticks h.cfg
  exact h.countStep.enterDwell (by rw [Zone.countStep_isSome, hq]) hdwell

section
variable {z : Zone} (h : z.SequencerLegal) (hc : zoneParamsInRange z.cfg = true) {i : Nat} {g : Stage}
  (hg : z.stages[i]? = some g)
include h hc hg

/-- A stage that leaves STARTING or STOPPING, or is in neither, leaves a zone at rest or as legal as it was. -/
theorem Zone.SequencerLegal.stepOver {f : Stage → Stage} (hf : ∀ g, (f g).Legal)
    (hnew : (f g).status ≠ .starting ∧ (f g).status ≠ .stopping) (hold : g.status = .starting ∨ g.status = .stopping) :
    (z.changeStage i f).AtRest ∧ z.dwell = 0 ∧ z.sequence.isSome = true
      ∧ z.seq = (if g.status = .starting then .stepUp else .stepDown) := by
  obtain ⟨hstages, hstarting, hstopping, hsequence, hdwell, -, hsteps, hlast⟩ := h
  have hstart := Zone.countStages_changeStage f hg .starting
  have hstop := Zone.countStages_changeStage f hg .stopping
  have hseq : z.seq = (if g.status = .starting then .stepUp else .stepDown) := by
    rcases hold with hs | hs
    · have := Zone.countStages_pos hg hs
      rw [if_pos hs]
      refine Classical.byContradiction fun hne => ?_
      rw [hstarting, if_neg hne] at this
      cases this
    · have := Zone.countStages_pos hg hs
      rw [if_neg (by simp [hs])]
      refine Classical.byContradiction fun hne => ?_
      rw [hstopping, if_neg hne] at this
      cases this
  have hcounts : (z.changeStage i f).countStages .starting = 0 ∧ (z.changeStage i f).countStages .stopping = 0 := by
    rw [hstarting] at hstart
    rw [hstopping] at hstop
    rcases hold with hs | hs <;> simp_all
  refine ⟨⟨Zone.changeStage_stages_legal hstages hf, hcounts.1, hcounts.2, hsteps, hlast, hc⟩, ?_, ?_, hseq⟩
  · refine hdwell.resolve_left ?_
    rw [hseq]
    split <;> simp
  · rw [hsequence, hseq]
    split <;> simp

omit hc in
/-- A stage that was in no step and is in none leaves the sequencer legal. -/
theorem Zone.SequencerLegal.changeStage {f : Stage → Stage} (hf : ∀ g, (f g).Legal)
    (hnew : (f g).status ≠ .starting ∧ (f g).status ≠ .stopping) (hold : g.status ≠ .starting ∧ g.status ≠ .stopping) :
    (z.changeStage i f).SequencerLegal := by
  obtain ⟨hstages, hstarting, hstopping, hrest⟩ := h
  have hstart := Zone.countStages_changeStage f hg .starting
  have hstop := Zone.countStages_changeStage f hg .stopping
  simp only [hnew, hold, decide_false, Bool.toNat_false, Nat.add_zero] at hstart hstop
  exact ⟨Zone.changeStage_stages_legal hstages hf, hstart.trans hstarting, hstop.trans hstopping, hrest⟩

theorem Zone.SequencerLegal.faultStage (c : Cause) : (z.faultStage i c).SequencerLegal := by
  have hfail : ∀ g, (Stage.fail c g).Legal := Stage.fail_legal c
  have hkeep : g.status ≠ .starting ∧ g.status ≠ .stopping →
      ((z.changeStage i (Stage.fail c)).raise .fanFault).SequencerLegal := fun hs => h.changeStage hg hfail ⟨nofun, nofun⟩ hs
  unfold Zone.faultStage
  dsimp only
  rw [Zone.statusAt_eq hg]
  split
  · next hs => exact (hkeep (by simp [hs])).tellSequencer hc
  · next hs =>
    obtain ⟨hrest, hdwell, hq, hseq⟩ := h.stepOver hc hg hfail ⟨nofun, nofun⟩ (.inl hs)
    have hrest := hrest.raise .fanFault
    unfold Zone.stepUpFailed
    split
    · split
      · next j hj =>
        have hstarted := hrest.started hdwell hq hj
        rw [if_pos hs] at hseq
        have hsame : ({ ((z.changeStage i (Stage.fail c)).raise .fanFault).changeStage j
            (Stage.start ((z.changeStage i (Stage.fail c)).raise .fanFault).cfg.proofTicks) with seq := .stepUp } : Zone)
            = ((z.changeStage i (Stage.fail c)).raise .fanFault).changeStage j
              (Stage.start ((z.changeStage i (Stage.fail c)).raise .fanFault).cfg.proofTicks) := by
          rw [← hseq]
          rfl
        rw [← hsame]
        exact hstarted
      · obtain ⟨q, hq⟩ := Option.isSome_iff_exists.mp hq
        exact hrest.endShort hdwell hq
    · exact hrest.enterIdle
  · next hs => exact (hkeep (by simp [hs])).figures.tellSequencer hc
  · next hs =>
    obtain ⟨hrest, -, hq, -⟩ := h.stepOver hc hg hfail ⟨nofun, nofun⟩ (.inr hs)
    exact (hrest.raise .fanFault).stepDownEnded hq
  · exact h

theorem Zone.SequencerLegal.proveStage : (z.proveStage i).SequencerLegal := by
  unfold Zone.proveStage
  rw [Zone.statusAt_eq hg]
  split
  · next hs =>
    obtain ⟨hrest, -, hq, -⟩ := h.stepOver hc hg Stage.run_legal ⟨nofun, nofun⟩ (.inl hs)
    obtain ⟨-, -, hdwell, -⟩ := zoneParams_ticks hc
    exact hrest.figures.countStep.enterDwell (by rw [Zone.countStep_isSome]; exact hq) hdwell
  all_goals exact h

theorem Zone.SequencerLegal.silenceStage : (z.silenceStage i).SequencerLegal := by
  unfold Zone.silenceStage
  split
  · exact h.faultStage hc hg .silent
  · exact h.faultStage hc hg .silent
  all_goals exact h

theorem Zone.SequencerLegal.fanReading (proof trip : Bool) : (z.fanReading i proof trip).SequencerLegal := by
  unfold Zone.fanReading
  split
  · exact h.faultStage hc hg .trip
  · split
    · exact h.proveStage hc hg
    · exact h

theorem Zone.SequencerLegal.resetStage (hs : g.status = .faulted) : (z.resetStage i).SequencerLegal := by
  have hrest : (z.changeStage i Stage.rest).SequencerLegal :=
    h.changeStage hg Stage.rest_legal ⟨nofun, nofun⟩ (by simp [hs])
  exact Zone.SequencerLegal.tellSequencer (z := { z.changeStage i Stage.rest with shortHold := false }) hrest hc

theorem Zone.SequencerLegal.rundownEnd (hs : g.status = .stopping) : (z.rundownEnd i).SequencerLegal := by
  obtain ⟨hrest, -, hq, -⟩ := h.stepOver hc hg Stage.rest_legal ⟨nofun, nofun⟩ (.inr hs)
  exact hrest.stepDownEnded hq

end

end Sys2Proof.Machine
end

section
/-! SUPPORT. Every change of one zone record that a command makes keeps the record legal, its sequencer legal and its figures
exact, and the nodes its slots and stages name. -/

namespace Sys2Proof.Machine

/-- Record `x` changed to `y` soundly: legal records, legal sequencers and exact figures stay so. -/
structure Zone.Sound (x y : Zone) : Prop where
  legal : x.Legal → y.Legal
  sequencer : x.Legal → x.SequencerLegal → y.SequencerLegal
  figures : x.FiguresExact → y.FiguresExact

theorem Zone.Sound.refl (x : Zone) : x.Sound x := ⟨id, fun _ h => h, id⟩

/-- Record `y` names the nodes and channels that `x` names, in the order of `x`. -/
structure Zone.SameNames (x y : Zone) : Prop where
  slots : y.slots.map (fun g => (g.node, g.channel)) = x.slots.map fun g => (g.node, g.channel)
  stages : y.stages.map (·.node) = x.stages.map (·.node)

theorem Zone.SameNames.refl (x : Zone) : x.SameNames x := ⟨rfl, rfl⟩

theorem Zone.SameNames.trans {x y z : Zone} (h : x.SameNames y) (k : y.SameNames z) : x.SameNames z :=
  ⟨k.slots.trans h.slots, k.stages.trans h.stages⟩

theorem Zone.SameAir.names {x y : Zone} (h : x.SameAir y) (hn : y.stages.map (·.node) = x.stages.map (·.node)) :
    x.SameNames y := ⟨by rw [h.slots], hn⟩

/-! ## Changes by the ventilation unit -/

theorem Zone.Legal.cfg {x : Zone} (h : x.Legal) : zoneParamsInRange x.cfg = true := h.1

theorem Zone.Legal.maskKinds {x : Zone} (h : x.Legal) : onlyKindsOf zoneKinds x.cfg.mask = true := by
  have hc := h.cfg
  simp only [zoneParamsInRange, Bool.and_eq_true] at hc
  exact hc.2

/-- A change that keeps settings and fume part, names and kinds keeps a record legal. -/
theorem Zone.Legal.of_runs {x y : Zone} (h : x.Legal) (air : x.SameAir y) (runs : x.Runs y) : y.Legal := by
  have hmask := h.maskKinds
  obtain ⟨hcfg, hfloor, hlen, hslots, hS, hI, hblind, hstages, hnodes, hpending⟩ := h
  have hlength : y.stages.length = x.stages.length := by simpa using congrArg List.length runs.names
  refine ⟨air.cfg ▸ hcfg, air.hostFloor ▸ hfloor, air.slots ▸ hlen, air.slots ▸ hslots, air.S ▸ hS, ?_, ?_, hlength ▸ hstages,
    fun g hg => ?_, runs.pending hmask hpending⟩
  · rw [air.I, air.slots]
    exact hI
  · rw [air.blind, air.slots]
    exact hblind
  · have hmem : g.node ∈ x.stages.map (·.node) := runs.names ▸ List.mem_map_of_mem hg
    obtain ⟨g', hg', hnode⟩ := List.mem_map.mp hmem
    exact hnode ▸ hnodes g' hg'

theorem Zone.Sound.of_runs {x y : Zone} (air : x.SameAir y) (runs : x.Runs y)
    (seq : x.Legal → x.SequencerLegal → y.SequencerLegal) : x.Sound y :=
  ⟨fun h => h.of_runs air runs, seq, runs.figures⟩

theorem Zone.raise_sound (z : Zone) (k : EventKind) : z.Sound (z.raise k) :=
  .of_runs (z.raise_inputs k).air (z.raise_runs k) fun _ h => h

theorem Zone.demandChange_sound (z : Zone) (p : Bool) : z.Sound (z.demandChange p) :=
  .of_runs (z.demandChange_inputs p).air (z.demandChange_runs p) fun hl h => h.demandChange hl.cfg p

theorem Zone.takeTallies_sound (z : Zone) (t : Tallies) : z.Sound (z.takeTallies t) :=
  .of_runs (z.takeTallies_air t) (z.takeTallies_runs t) fun hl h => h.takeTallies hl.cfg t

section
variable {z : Zone} {i : Nat} {g : Stage} (hg : z.stages[i]? = some g)
include hg

theorem Zone.faultStage_sound (c : Cause) : z.Sound (z.faultStage i c) :=
  .of_runs (z.faultStage_inputs i c).air (z.faultStage_runs i c) fun hl h => h.faultStage hl.cfg hg c

theorem Zone.silenceStage_sound : z.Sound (z.silenceStage i) :=
  .of_runs (z.silenceStage_inputs i).air (z.silenceStage_runs i) fun hl h => h.silenceStage hl.cfg hg

omit hg in
theorem Zone.fanReading_inputs (proof trip : Bool) : z.SameInputs (z.fanReading i proof trip) := by
  unfold Zone.fanReading
  split
  · exact z.faultStage_inputs i .trip
  · split
    · exact z.proveStage_inputs i
    · exact .refl z

theorem Zone.fanReading_sound (proof trip : Bool) : z.Sound (z.fanReading i proof trip) :=
  .of_runs (z.fanReading_inputs (i := i) proof trip).air (z.fanReading_runs i proof trip)
    fun hl h => h.fanReading hl.cfg hg proof trip

omit hg in
theorem Zone.resetStage_inputs (z : Zone) (i : Nat) : z.SameInputs (z.resetStage i) := by
  refine .trans (y := { z.changeStage i Stage.rest with shortHold := false }) ?_ (Zone.tellSequencer_inputs _)
  exact ⟨⟨rfl, rfl, rfl, rfl, rfl, rfl, rfl, rfl, rfl⟩, rfl⟩

theorem Zone.resetStage_sound (hs : g.status = .faulted) : z.Sound (z.resetStage i) :=
  .of_runs (z.resetStage_inputs i).air (Zone.resetStage_runs ((Zone.statusAt_eq hg).trans hs))
    fun hl h => h.resetStage hl.cfg hg hs

omit hg in
theorem Zone.rundownEnd_inputs (z : Zone) (i : Nat) : z.SameInputs (z.rundownEnd i) :=
  (z.changeStage_inputs i _).trans (Zone.stepDownEnded_inputs _)

theorem Zone.rundownEnd_sound (hs : g.status = .stopping) : z.Sound (z.rundownEnd i) :=
  .of_runs (z.rundownEnd_inputs i).air (Zone.rundownEnd_runs ((Zone.statusAt_eq hg).trans hs))
    fun hl h => h.rundownEnd hl.cfg hg hs

end

/-- The end of a dwell (R124). -/
theorem Zone.enterIdle_sound {z : Zone} (hs : z.seq = .dwell) : z.Sound z.enterIdle :=
  .of_runs z.enterIdle_inputs.air z.enterIdle_runs
    fun hl h => (h.atRest hl.cfg (by simp [hs]) (by simp [hs])).enterIdle

/-! ## Settings -/

theorem Zone.floored_sound (z : Zone) {f : Nat} (hf : f ≤ 4) : z.Sound (z.floored f) := by
  have hset : ∀ h : z.Legal, ({ z with hostFloor := f } : Zone).Legal := fun h => by
    obtain ⟨hcfg, -, hrest⟩ := h
    exact ⟨hcfg, hf, hrest⟩
  have hdemand := Zone.demandChange_sound { z with hostFloor := f } false
  exact ⟨fun h => hdemand.legal (hset h), fun h hs => hdemand.sequencer (hset h) hs, fun _ => Zone.demandChange_exact _ _⟩

theorem Zone.setShed_sound (z : Zone) (f : Bool) : z.Sound { z with hostShed := f } := ⟨id, fun _ h => h, id⟩

theorem Zone.raiseIf_legal {z : Zone} (h : z.Legal) (b : Bool) (k : EventKind) : (z.raiseIf b k).Legal :=
  h.of_runs (z.raiseIf_inputs b k).air (z.raiseIf_runs b k)

theorem Zone.bandProcedure_legal {z : Zone} (h : z.Legal) : z.bandProcedure.Legal := by
  have hband : ({ z with band := bandAfter z.cfg z.S z.band } : Zone).Legal := h
  exact Zone.raiseIf_legal (Zone.raiseIf_legal hband _ _) _ _

theorem Zone.bandProcedure_seq {z : Zone} (h : z.SequencerLegal) : z.bandProcedure.SequencerLegal :=
  (Zone.SequencerLegal.raiseIf (z := { z with band := bandAfter z.cfg z.S z.band }) h _ _).raiseIf _ _

theorem Zone.configured_sound (z : Zone) {cfg : ZoneParams} (hc : zoneParamsInRange cfg = true) : z.Sound (z.configured cfg) := by
  have hset : z.Legal → (Zone.bandProcedure { z with cfg := cfg, inUse := true }).Legal := fun h => by
    obtain ⟨-, hrest⟩ := h
    exact Zone.bandProcedure_legal ⟨hc, hrest⟩
  refine ⟨fun h => (Zone.demandChange_sound _ _).legal (hset h), fun h hs => ?_, fun _ => Zone.demandChange_exact _ _⟩
  exact (Zone.demandChange_sound _ _).sequencer (hset h)
    (Zone.bandProcedure_seq (z := { z with cfg := cfg, inUse := true }) hs)

theorem Zone.bandProcedure_inputs_stages (z : Zone) :
    z.bandProcedure.slots = z.slots ∧ z.bandProcedure.stages = z.stages := by
  simp only [Zone.bandProcedure, Zone.raiseIf_eq, and_self]

theorem Zone.configured_names (z : Zone) (cfg : ZoneParams) : z.SameNames (z.configured cfg) := by
  obtain ⟨hslots, hstages⟩ := Zone.bandProcedure_inputs_stages { z with cfg := cfg, inUse := true }
  have hdemand : (Zone.bandProcedure { z with cfg := cfg, inUse := true }).SameNames (z.configured cfg) :=
    (Zone.demandChange_inputs _ _).air.names (Zone.demandChange_runs _ _).names
  exact .trans (y := Zone.bandProcedure { z with cfg := cfg, inUse := true }) ⟨by rw [hslots], by rw [hstages]⟩ hdemand

/-- A pending set with members taken out (R174, R178). -/
theorem Zone.setPending_sound (z : Zone) {m : EventSet}
    (hm : onlyKindsOf zoneKinds z.pending = true → onlyKindsOf zoneKinds m = true) : z.Sound { z with pending := m } := by
  refine ⟨fun h => ?_, fun _ h => h, id⟩
  obtain ⟨h1, h2, h3, h4, h5, h6, h7, h8, h9, hp⟩ := h
  exact ⟨h1, h2, h3, h4, h5, h6, h7, h8, h9, hm hp⟩

/-! ## The slot list -/

theorem indexOf_le {l : List Slot} {m : Nat} (h : ∀ g ∈ l, g.n ≤ m) : indexOf l ≤ m := by
  rcases indexFrom_cases 0 l with h0 | ⟨g, hg, -, hn⟩
  · exact (indexOf_eq_indexFrom l).trans h0 ▸ Nat.zero_le m
  · exact (indexOf_eq_indexFrom l).trans hn.symm ▸ h g hg

theorem Slot.goStale_legal {g : Slot} (h : g.Legal) : g.goStale.Legal := by
  obtain ⟨h1, h2, h3, h4, h5, -, -⟩ := h
  exact ⟨h1, h2, h3, h4, h5, Nat.zero_le _, .inr rfl⟩

/-- A record with another slot list, its blind condition and I re-evaluated (R96, R98). -/
def Zone.reslotted (z : Zone) (slots : List Slot) : Zone := ({ z with slots := slots }).reviewBlind.reviewI

theorem Zone.reslotted_eq (z : Zone) (slots : List Slot) : z.reslotted slots =
    { z with slots := slots, blind := blindCondition slots, I := indexOf slots, pending := (z.reslotted slots).pending } := by
  simp only [Zone.reslotted, Zone.reviewBlind, Zone.reviewI, Zone.raiseIf_eq]

theorem Zone.reslotted_pending {z : Zone} (h : z.Legal) (slots : List Slot) :
    onlyKindsOf zoneKinds (z.reslotted slots).pending = true := by
  have hmask := h.maskKinds
  obtain ⟨-, -, -, -, -, -, -, -, -, hp⟩ := h
  have hraise := fun b c => ((Zone.raiseIf_runs { z with slots := slots, blind := blindCondition slots } b .blind).trans
    (Zone.raiseIf_runs _ c .sighted)).pending hmask hp
  exact hraise _ _

theorem Zone.reslotted_legal {z : Zone} (h : z.Legal) {slots : List Slot} (hlen : slots.length ≤ 4)
    (hslots : ∀ g ∈ slots, g.Legal) : (z.reslotted slots).Legal := by
  have hp := Zone.reslotted_pending h slots
  obtain ⟨hcfg, hfloor, -, -, hS, -, -, hstages, hnodes, -⟩ := h
  rw [Zone.reslotted_eq]
  exact ⟨hcfg, hfloor, hlen, hslots, hS, rfl, rfl, hstages, hnodes, hp⟩

theorem Zone.reslotted_seq {z : Zone} (h : z.SequencerLegal) (slots : List Slot) : (z.reslotted slots).SequencerLegal := by
  rw [Zone.reslotted_eq]
  exact h

theorem Zone.handOn_exact {x y : Zone} (h : y.S = x.S → y.blind = x.blind → y.band = x.band → y.FiguresExact) :
    (x.handOn y).FiguresExact := by
  unfold Zone.handOn
  split
  · next hsame =>
    obtain ⟨hS, hblind, hband⟩ := hsame
    exact h hS hblind hband
  · exact Zone.demandChange_exact _ _

theorem Zone.handOn_runs (x y : Zone) : y.Runs (x.handOn y) := by
  unfold Zone.handOn
  split
  · exact .refl y
  · exact y.demandChange_runs _

theorem Zone.handOn_seq (x : Zone) {y : Zone} (hc : zoneParamsInRange y.cfg = true) (h : y.SequencerLegal) :
    (x.handOn y).SequencerLegal := by
  unfold Zone.handOn
  split
  · exact h
  · exact h.demandChange hc _

/-- A change handed on keeps a record legal when the record handed on is. -/
theorem Zone.handOn_legal (x : Zone) {y : Zone} (h : y.Legal) : (x.handOn y).Legal :=
  h.of_runs (x.handOn_air y) (x.handOn_runs y)

theorem Zone.withSlots_sound {z : Zone} {slots : List Slot}
    (h : z.Legal → slots.length ≤ 4 ∧ ∀ g ∈ slots, g.Legal) : z.Sound (z.withSlots slots) := by
  have hlegal : z.Legal → (z.reslotted slots).Legal := fun hz => Zone.reslotted_legal hz (h hz).1 (h hz).2
  refine ⟨fun hz => Zone.handOn_legal z (hlegal hz),
    fun hz hs => Zone.handOn_seq z (hlegal hz).cfg (Zone.reslotted_seq hs slots), fun hf => Zone.handOn_exact fun _ hblind _ => ?_⟩
  have heq := Zone.reslotted_eq z slots
  have hblind : blindCondition slots = z.blind := by
    have hsame : (z.reslotted slots).blind = z.blind := hblind
    rw [← hsame, heq]
  show (z.reslotted slots).FiguresExact
  rw [heq, hblind]
  exact hf

theorem Zone.reslotted_slots (z : Zone) (slots : List Slot) : (z.reslotted slots).slots = slots := by
  rw [Zone.reslotted_eq]

theorem Zone.reslotted_kept (z : Zone) (slots : List Slot) :
    (z.reslotted slots).stages = z.stages ∧ (z.reslotted slots).inUse = z.inUse ∧ (z.reslotted slots).cfg = z.cfg
      ∧ (z.reslotted slots).hostShed = z.hostShed ∧ (z.reslotted slots).hostFloor = z.hostFloor
      ∧ (z.reslotted slots).S = z.S ∧ (z.reslotted slots).band = z.band
      ∧ (z.reslotted slots).tallies = z.tallies := by
  rw [Zone.reslotted_eq]
  exact ⟨rfl, rfl, rfl, rfl, rfl, rfl, rfl, rfl⟩

theorem Zone.withSlots_slots (z : Zone) (slots : List Slot) : (z.withSlots slots).slots = slots :=
  (z.handOn_air (z.reslotted slots)).slots.trans (z.reslotted_slots slots)

theorem Zone.withSlots_stages (z : Zone) (slots : List Slot) :
    (z.withSlots slots).stages.map (·.node) = z.stages.map (·.node) :=
  (z.handOn_runs (z.reslotted slots)).names.trans (congrArg (List.map (·.node)) (z.reslotted_kept slots).1)

theorem Zone.handOn_tallies (x y : Zone) : (x.handOn y).tallies = y.tallies := by
  unfold Zone.handOn
  split
  · rfl
  · exact (Zone.demandChange_inputs _ _).tallies

theorem Zone.withSlots_settings (z : Zone) (slots : List Slot) :
    (z.withSlots slots).inUse = z.inUse ∧ (z.withSlots slots).cfg = z.cfg ∧ (z.withSlots slots).hostShed = z.hostShed
      ∧ (z.withSlots slots).hostFloor = z.hostFloor ∧ (z.withSlots slots).S = z.S ∧ (z.withSlots slots).band = z.band
      ∧ (z.withSlots slots).tallies = z.tallies := by
  obtain ⟨-, hinUse, hcfg, hshed, hfloor, hS, hband, htallies⟩ := z.reslotted_kept slots
  have h := z.handOn_air (z.reslotted slots)
  exact ⟨h.inUse.trans hinUse, h.cfg.trans hcfg, h.hostShed.trans hshed, h.hostFloor.trans hfloor, h.S.trans hS,
    h.band.trans hband, (z.handOn_tallies _).trans htallies⟩

theorem Zone.withSlots_names {z : Zone} {slots : List Slot}
    (h : slots.map (fun g => (g.node, g.channel)) = z.slots.map fun g => (g.node, g.channel)) :
    z.SameNames (z.withSlots slots) := ⟨by rw [Zone.withSlots_slots, h], z.withSlots_stages slots⟩

theorem Zone.Legal.slots {z : Zone} (h : z.Legal) : z.slots.length ≤ 4 ∧ ∀ g ∈ z.slots, g.Legal := by
  obtain ⟨-, -, hlen, hslots, -⟩ := h
  exact ⟨hlen, hslots⟩

theorem Zone.ageOut_sound (z : Zone) (i : Nat) : z.Sound (z.ageOut i) := by
  refine Zone.withSlots_sound fun h => ⟨le_of_eq_of_le (changeAt_length _ _ _) h.slots.1, fun g hg => ?_⟩
  rcases mem_changeAt hg with hmem | ⟨x, hx, rfl⟩
  · exact h.slots.2 g hmem
  · exact Slot.goStale_legal (h.slots.2 x (List.mem_of_getElem? hx))

theorem Zone.ageOut_names (z : Zone) (i : Nat) : z.SameNames (z.ageOut i) :=
  Zone.withSlots_names (map_changeAt (f := Slot.goStale) (fun _ => rfl) _ _)

theorem Zone.staleNode_sound (z : Zone) (id : NodeId) : z.Sound (z.staleNode id) := by
  refine Zone.withSlots_sound fun h => ⟨le_of_eq_of_le (List.length_map _) h.slots.1, fun g hg => ?_⟩
  obtain ⟨x, hx, rfl⟩ := List.mem_map.mp hg
  split
  · exact Slot.goStale_legal (h.slots.2 x hx)
  · exact h.slots.2 x hx

theorem Zone.staleNode_names (z : Zone) (id : NodeId) : z.SameNames (z.staleNode id) := by
  refine Zone.withSlots_names ?_
  rw [List.map_map]
  refine List.map_congr_left fun g _ => ?_
  simp only [Function.comp]
  split <;> rfl

/-! ## The gas report -/

theorem ceilDiv_le {d m : Nat} (hd : 0 < d) (hm : 0 < m) : ceilDiv d m ≤ d := by
  unfold ceilDiv
  rw [Nat.div_le_iff_le_mul_add_pred hm]
  have := Nat.le_mul_of_pos_left d hm
  omega

/-- S stays between where it was and I (R99). -/
theorem smoothed_le {i s m kRise kFall : Nat} (hi : i ≤ m) (hs : s ≤ m) : smoothed i s kRise kFall ≤ m := by
  unfold smoothed
  split
  · have := ceilDiv_le (d := i - s) (m := 2 ^ kRise) (by omega) (Nat.two_pow_pos _)
    omega
  · split <;> omega

theorem Slot.sample_legal {g : Slot} (h : g.Legal) {stale : Nat} (hs : stale ≤ 600) (id : NodeId) (r0 : Nat) (v0 : Bool)
    (r1 : Nat) (v1 : Bool) : (g.sample stale id r0 v0 r1 v1).Legal := by
  obtain ⟨h1, h2, h3, h4, h5, h6, h7⟩ := h
  rw [Slot.sample_eq]
  split <;> split
  · exact ⟨h1, h2, h3, h4, Nat.min_le_left _ _, hs, .inl rfl⟩
  · exact ⟨h1, h2, h3, h4, h5, h6, h7⟩
  · exact ⟨h1, h2, h3, h4, Nat.min_le_left _ _, hs, .inl rfl⟩
  · exact ⟨h1, h2, h3, h4, h5, h6, h7⟩

theorem zoneParams_stale {c : ZoneParams} (h : zoneParamsInRange c = true) : c.staleTicks ≤ 600 := by
  simp only [zoneParamsInRange, Bool.and_eq_true, within_iff] at h
  omega

section
variable (id : NodeId) (r0 : Nat) (v0 : Bool) (r1 : Nat) (v1 : Bool) (z : Zone)

theorem Zone.smoothedBy_legal (h : z.Legal) : (z.smoothedBy id r0 v0 r1 v1).Legal := by
  have hsampled : (z.reslotted (z.sampledSlots id r0 v0 r1 v1)).Legal := by
    refine Zone.reslotted_legal h (le_of_eq_of_le (List.length_map _) h.slots.1) fun g hg => ?_
    obtain ⟨x, hx, rfl⟩ := List.mem_map.mp hg
    exact Slot.sample_legal (h.slots.2 x hx) (zoneParams_stale h.cfg) id r0 v0 r1 v1
  obtain ⟨hcfg, hfloor, hlen, hslots, hS, hI, hrest⟩ := hsampled
  refine ⟨hcfg, hfloor, hlen, hslots, smoothed_le ?_ hS, hI, hrest⟩
  refine le_of_eq_of_le hI (indexOf_le fun g hg => ?_)
  obtain ⟨-, -, -, -, hn, -⟩ := hslots g hg
  exact hn

theorem Zone.gasUpdate_legal (h : z.Legal) : (z.gasUpdate id r0 v0 r1 v1).Legal :=
  Zone.bandProcedure_legal (z.smoothedBy_legal id r0 v0 r1 v1 h)

theorem Zone.gasUpdate_seq (h : z.SequencerLegal) : (z.gasUpdate id r0 v0 r1 v1).SequencerLegal := by
  rw [Zone.gasUpdate_eq]
  exact h

theorem Zone.gasReported_sound : z.Sound (z.gasReported id r0 v0 r1 v1) :=
  ⟨fun h => Zone.handOn_legal z (z.gasUpdate_legal id r0 v0 r1 v1 h),
    fun h hs => Zone.handOn_seq z (z.gasUpdate_legal id r0 v0 r1 v1 h).cfg (z.gasUpdate_seq id r0 v0 r1 v1 hs),
    z.gasUpdate_handOn_exact id r0 v0 r1 v1⟩

theorem Zone.gasReported_names : z.SameNames (z.gasReported id r0 v0 r1 v1) := by
  have hupdate : z.SameNames (z.gasUpdate id r0 v0 r1 v1) := by
    refine ⟨?_, by rw [Zone.gasUpdate_eq]⟩
    rw [Zone.gasUpdate_slots, Zone.sampledSlots, List.map_map]
    refine List.map_congr_left fun g _ => ?_
    simp only [Function.comp, Slot.sample_eq]
    split <;> split <;> rfl
  exact hupdate.trans ((z.handOn_air _).names (z.handOn_runs _).names)

end

/-! ## The stage list -/

theorem Zone.withStages_inputs (z : Zone) (stages : List Stage) : z.SameInputs (z.withStages stages) :=
  .trans (y := { z with stages := stages }) ⟨⟨rfl, rfl, rfl, rfl, rfl, rfl, rfl, rfl, rfl⟩, rfl⟩
    ((Zone.figures_inputs _).trans (Zone.tellSequencer_inputs _))

theorem Zone.withStages_exact (z : Zone) (stages : List Stage) : (z.withStages stages).FiguresExact :=
  (Zone.tellSequencer_runs _).figures (Zone.figures_exact _)

theorem Zone.withStages_names (z : Zone) (stages : List Stage) :
    (z.withStages stages).stages.map (·.node) = stages.map (·.node) :=
  ((Zone.figures_runs { z with stages := stages }).trans (Zone.tellSequencer_runs _)).names

/-- Another stage list while the sequencer is IDLE, with no stage in a step (R60, R61). -/
theorem Zone.withStages_sound {z : Zone} {stages : List Stage} (hidle : z.seq = .idle)
    (hlegal : z.Legal → stages.length ≤ 4 ∧ ∀ g ∈ stages, g.node.Exists)
    (hstages : (∀ g ∈ z.stages, g.Legal ∧ g.status ≠ .starting ∧ g.status ≠ .stopping) →
      ∀ g ∈ stages, g.Legal ∧ g.status ≠ .starting ∧ g.status ≠ .stopping) : z.Sound (z.withStages stages) := by
  have hset : z.Legal → ({ z with stages := stages } : Zone).Legal := fun h => by
    obtain ⟨hlen, hnodes⟩ := hlegal h
    obtain ⟨h1, h2, h3, h4, h5, h6, h7, -, -, h10⟩ := h
    exact ⟨h1, h2, h3, h4, h5, h6, h7, hlen, hnodes, h10⟩
  refine ⟨fun h => (hset h).of_runs ((Zone.figures_inputs _).trans (Zone.tellSequencer_inputs _)).air
    ((Zone.figures_runs _).trans (Zone.tellSequencer_runs _)), fun h hs => ?_, fun _ => z.withStages_exact stages⟩
  have hrest := hs.atRest h.cfg (by simp [hidle]) (by simp [hidle])
  obtain ⟨-, -, -, hsequence, hdwell, -⟩ := hs
  have hnew := hstages fun g hg =>
    ⟨hrest.stages g hg, fun hst => by simpa [hst] using List.countP_eq_zero.mp hrest.starting g hg,
      fun hst => by simpa [hst] using List.countP_eq_zero.mp hrest.stopping g hg⟩
  have hnewRest : Zone.AtRest { z with stages := stages } :=
    ⟨fun g hg => (hnew g hg).1, List.countP_eq_zero.mpr fun g hg => by simp [hnew g hg],
      List.countP_eq_zero.mpr fun g hg => by simp [hnew g hg], hrest.steps, hrest.last, h.cfg⟩
  have hnone : z.sequence = none := by simpa [hidle] using hsequence
  have hfigures : ({ z with stages := stages } : Zone).SequencerLegal :=
    hnewRest.idle hidle (hdwell.resolve_left (by simp [hidle])) hnone
  exact hfigures.figures.tellSequencer h.cfg

/-! ## CLEAR and the tick -/

theorem Zone.cleared_sound (z : Zone) (t : Tallies) : z.Sound (z.cleared t) := by
  have hset : z.Legal → (Zone.reslotted { z with tallies := t } (z.slots.map Slot.goStale)).Legal := fun h => by
    refine Zone.reslotted_legal (z := { z with tallies := t }) h (le_of_eq_of_le (List.length_map _) h.slots.1) fun g hg => ?_
    obtain ⟨x, hx, rfl⟩ := List.mem_map.mp hg
    exact Slot.goStale_legal (h.slots.2 x hx)
  refine ⟨fun h => (Zone.demandChange_sound _ _).legal (hset h), fun h hs => ?_, fun _ => Zone.demandChange_exact _ _⟩
  exact (Zone.demandChange_sound _ _).sequencer (hset h) (Zone.reslotted_seq (z := { z with tallies := t }) hs _)

theorem Slot.ticked_legal {g : Slot} (h : g.Legal) : g.ticked.Legal := by
  rw [Slot.ticked_eq h]
  obtain ⟨h1, h2, h3, h4, h5, h6, h7⟩ := h
  exact ⟨h1, h2, h3, h4, h5, Nat.le_trans (Nat.sub_le _ _) h6, h7.imp_right fun h => by simp [h]⟩

theorem Stage.ticked_legal {g : Stage} (h : g.Legal) : g.ticked.Legal := by
  rw [Stage.ticked_eq h]
  obtain ⟨h1, h2, h3, h4, h5⟩ := h
  exact ⟨h1, Nat.le_trans (Nat.sub_le _ _) h2, Nat.le_trans (Nat.sub_le _ _) h3, h4.imp_right fun h => by simp [h],
    h5.imp_right fun h => by simp [h]⟩

theorem Stage.ticked_status (g : Stage) : g.ticked.status = g.status := by
  unfold Stage.ticked
  split <;> rfl

theorem Stage.ticked_node (g : Stage) : g.ticked.node = g.node := by
  unfold Stage.ticked
  split <;> rfl

theorem Slot.ticked_fresh (g : Slot) : g.ticked.fresh = g.fresh ∧ g.ticked.n = g.n := by
  unfold Slot.ticked
  split <;> exact ⟨rfl, rfl⟩

theorem indexOf_ticked (l : List Slot) : indexOf (l.map Slot.ticked) = indexOf l := by
  simp only [indexOf, List.foldl_map, Slot.ticked_fresh]

theorem blindCondition_ticked (l : List Slot) : blindCondition (l.map Slot.ticked) = blindCondition l := by
  simp [blindCondition, List.any_map, Function.comp_def, Slot.ticked_fresh]

theorem Zone.ticked_count (z : Zone) (x : StageStatus) : z.ticked.countStages x = z.countStages x := by
  simp [Zone.countStages, Zone.ticked, List.countP_map, Function.comp_def, Stage.ticked_status]

theorem Zone.ticked_sound (z : Zone) : z.Sound z.ticked := by
  refine ⟨fun h => ?_, fun _ hs => ?_, fun hf => ?_⟩
  · obtain ⟨hcfg, hfloor, hlen, hslots, hS, hI, hblind, hstages, hnodes, hpending⟩ := h
    refine ⟨hcfg, hfloor, le_of_eq_of_le (List.length_map _) hlen, fun g hg => ?_, hS, hI.trans (indexOf_ticked _).symm,
      hblind.trans (blindCondition_ticked _).symm, le_of_eq_of_le (List.length_map _) hstages, fun g hg => ?_, hpending⟩
    · obtain ⟨x, hx, rfl⟩ := List.mem_map.mp hg
      exact Slot.ticked_legal (hslots x hx)
    · obtain ⟨x, hx, rfl⟩ := List.mem_map.mp hg
      rw [Stage.ticked_node]
      exact hnodes x hx
  · obtain ⟨hstages, hstarting, hstopping, hsequence, hdwell, hle, hsteps, hlast⟩ := hs
    refine ⟨fun g hg => ?_, (z.ticked_count _).trans hstarting, (z.ticked_count _).trans hstopping, hsequence, ?_, ?_, hsteps,
      hlast⟩
    · obtain ⟨x, hx, rfl⟩ := List.mem_map.mp hg
      exact Stage.ticked_legal (hstages x hx)
    · refine hdwell.imp_right fun h0 => ?_
      simp [Zone.ticked, h0]
    · simp only [Zone.ticked]
      split <;> omega
  · have hN : z.ticked.N = z.N := List.length_map _
    have hc : z.ticked.c = z.c := z.ticked_count .running
    unfold Zone.FiguresExact
    rw [hN, hc]
    exact hf

theorem Zone.ticked_names (z : Zone) : z.SameNames z.ticked := by
  refine ⟨?_, ?_⟩
  · simp only [Zone.ticked, List.map_map]
    refine List.map_congr_left fun g _ => ?_
    simp only [Function.comp, Slot.ticked]
    split <;> rfl
  · simp only [Zone.ticked, List.map_map, Function.comp_def, Stage.ticked_node]

theorem Zone.cleared_names (z : Zone) (t : Tallies) : z.SameNames (z.cleared t) := by
  have hset : z.SameNames (Zone.reslotted { z with tallies := t } (z.slots.map Slot.goStale)) := by
    rw [Zone.reslotted_eq]
    exact ⟨by rw [List.map_map]; rfl, rfl⟩
  exact hset.trans ((Zone.demandChange_inputs _ _).air.names (Zone.demandChange_runs _ _).names)

end Sys2Proof.Machine
end

section
/-! SUPPORT. What every command keeps (tier 3), in one relation: legal records, tallies, darkness, sequencers, figures,
bindings, FREE zones and line states, with what a change that is under way has still to settle. -/

namespace Sys2Proof.Machine

/-! ## What is kept, but for what a change has still to settle -/

/-- What a change under way has still to settle: the zones whose tallies are to be counted (R18), the bays that are to go DARK
(R8) and the lines that are to follow their nodes (R64). -/
structure Unsettled where
  zones : List Nat
  bays : Nat → Prop
  lines : Nat → Prop

/-- Nothing is left to settle. -/
def Unsettled.nothing : Unsettled := ⟨[], fun _ => False, fun _ => False⟩

/-- The tallies of every zone but some agree with the bay records. -/
def State.TalliesBut (s : State) (zs : List Nat) : Prop :=
  ∀ z, z < 32 → z ∉ zs → (s.zone z).tallies = s.tallyOf z

/-- Every bay in service but some is watched or DARK. -/
def State.DarkBut (s : State) (p : Nat → Prop) : Prop :=
  ∀ b, b < 2048 → (s.bay b).cls ≠ .retired → ¬ s.Watched b → ¬ p b → (s.bay b).census = .dark

/-- Every line but some follows its nodes. -/
def State.LinesBut (s : State) (p : Nat → Prop) : Prop :=
  ∀ l, l < 4 → ¬ p l → ((s.line l).state = .idle ↔ ∀ a, 1 ≤ a → a ≤ 63 → (s.node ⟨l, a⟩).state = .off)
    ∧ ∀ v ∈ (s.line l).visit, v.retired = false → (s.node ⟨l, v.address⟩).state ≠ .off

/-- A change from `s` to `t` keeps everything that holds at all times; `E` was to be settled before it and `F` is after. -/
structure State.Keeps (E F : Unsettled) (s t : State) : Prop where
  legal : t.Legal
  tallies : s.TalliesBut E.zones → t.TalliesBut F.zones
  dark : s.DarkBut E.bays → t.DarkBut F.bays
  sequencers : s.SequencersLegal → t.SequencersLegal
  figures : (∀ z, z < 32 → (s.zone z).FiguresExact) → ∀ z, z < 32 → (t.zone z).FiguresExact
  bindings : s.BindingsSound → t.BindingsSound
  free : s.FreeZonesBare → t.FreeZonesBare
  lines : s.LinesBut E.lines → t.LinesBut F.lines

theorem State.Keeps.refl {s : State} (h : s.Legal) (E : Unsettled) : s.Keeps E E s := ⟨h, id, id, id, id, id, id, id⟩

theorem State.Keeps.trans {E F G : Unsettled} {s t u : State} (h : s.Keeps E F t) (k : t.Legal → t.Keeps F G u) :
    s.Keeps E G u := by
  obtain ⟨legal, tallies, dark, sequencers, figures, bindings, free, lines⟩ := k h.legal
  exact ⟨legal, tallies ∘ h.tallies, dark ∘ h.dark, sequencers ∘ h.sequencers, figures ∘ h.figures,
    bindings ∘ h.bindings, free ∘ h.free, lines ∘ h.lines⟩

/-- What each step of a fold keeps, the fold keeps. -/
theorem State.Keeps.foldl {α : Type} {E : Unsettled} {f : State → α → State} (l : List α)
    (hf : ∀ a ∈ l, ∀ s : State, s.Legal → s.Keeps E E (f s a)) {s : State} (hs : s.Legal) : s.Keeps E E (l.foldl f s) := by
  induction l generalizing s with
  | nil => exact .refl hs E
  | cons a l ih => exact (hf a List.mem_cons_self s hs).trans (ih fun b hb => hf b (List.mem_cons_of_mem a hb))

/-! ## Tallies -/

/-- The tallies of a zone depend on the bay records and on whether the zone offers its bays (R10, R17). -/
theorem State.tallyOf_congr {s t : State} {z : Nat} (bays : t.bays = s.bays) (inUse : (t.zone z).inUse = (s.zone z).inUse)
    (shed : (t.zone z).shed = (s.zone z).shed) : t.tallyOf z = s.tallyOf z := by
  simp only [State.tallyOf, Bay.offeredIn, bays, inUse, shed]

theorem Zone.SameAir.shed {x y : Zone} (h : x.SameAir y) : y.shed = x.shed := by
  simp only [Zone.shed, h.inUse, h.hostShed, h.band]

/-- A table read past a record that a condition passes over, before and after (R17). -/
theorem Table.filter_insert {α : Type} (p : Nat × α → Bool) (k : Nat) (a : α) (hp : p (k, a) = false) (t : Table α) :
    (Table.insert k a t).filter p = t.filter p := by
  induction t with
  | nil => simp [Table.insert, hp]
  | cons e t ih =>
    unfold Table.insert
    split
    · rw [List.filter_cons_of_neg (by simp [hp])]
    · simp only [List.filter_cons, ih]

theorem Table.filter_set {α : Type} [DecidableEq α] (d : α) (bound : Nat) (t : Table α) (hw : Table.wf d bound t = true)
    (k : Nat) (a : α) (p : α → Bool) (hold : p (Table.get d t k) = false) (hnew : p a = false) :
    (Table.set d t k a).filter (fun e => p e.2) = t.filter fun e => p e.2 := by
  have herase : (Table.erase t k).filter (fun e => p e.2) = t.filter fun e => p e.2 := by
    unfold Table.erase
    rw [List.filter_filter]
    refine List.filter_congr fun e he => ?_
    by_cases hk : e.1 = k
    · have hget : Table.get d t k = e.2 := hk ▸ Table.get_of_mem d bound t hw e.1 e.2 he
      simp [hk, ← hget, hold]
    · simp [hk]
  unfold Table.set
  split
  · exact herase
  · rw [Table.filter_insert (fun e => p e.2) k a hnew, herase]

theorem State.tallyOf_eq (s : State) (z : Nat) :
    s.tallyOf z = (s.bays.filter fun e => e.2.countsIn z).foldl (fun t e => t.add e.2 (e.2.offeredIn (s.zone z)))
      Tallies.zero := List.foldl_filter.symm

/-- The tallies of a zone that a bay counts in neither before nor after it is written (R17). -/
theorem State.Legal.tallyOf_setBay {s : State} (h : s.Legal) {b : Nat} {x : Bay} {z : Nat} (hold : (s.bay b).zone ≠ z)
    (hnew : x.zone ≠ z) : (s.setBay b x).tallyOf z = s.tallyOf z := by
  have holdCounts : (s.bay b).countsIn z = false := by simp [Bay.countsIn, hold]
  have hnewCounts : x.countsIn z = false := by simp [Bay.countsIn, hnew]
  have hfilter := Table.filter_set Bay.powerOn 2048 s.bays h.baysWf b x (fun y => y.countsIn z) holdCounts hnewCounts
  rw [State.tallyOf_eq, State.tallyOf_eq]
  exact congrArg (List.foldl (fun t e => t.add e.2 (e.2.offeredIn (s.zone z))) Tallies.zero) hfilter

/-- No bay in service counts in the zone: every tally is 0 (R17). -/
theorem State.Legal.tallyOf_none {s : State} (h : s.Legal) {z : Nat}
    (hz : ∀ b, b < 2048 → (s.bay b).cls ≠ .retired → (s.bay b).zone ≠ z) : s.tallyOf z = Tallies.zero := by
  rw [State.tallyOf_eq, List.filter_eq_nil_iff.mpr fun e he hc => ?_]
  · rfl
  · have hbay : s.bay e.1 = e.2 := Table.get_of_mem _ _ _ h.baysWf e.1 e.2 he
    have hlt : e.1 < 2048 := ((Table.wf_iff _ _ _).mp h.baysWf).2.1 e he
    simp only [Bay.countsIn, Bool.and_eq_true, decide_eq_true_eq, ← hbay] at hc
    exact hz e.1 hlt hc.1 hc.2

theorem Zone.raiseIf_false (z : Zone) (k : EventKind) : z.raiseIf false k = z := rfl

/-- Tallies that are the same change nothing (R18, R20). -/
theorem Zone.takeTallies_same (z : Zone) : z.takeTallies z.tallies = z := by
  have hload : z.tallies.loadMoved z.tallies = false := by simp [Tallies.loadMoved]
  have hfull : (decide (0 < z.tallies.offeredSum) && decide (z.tallies.offeredSum = 0)) = false := by
    simp only [Bool.and_eq_false_iff, decide_eq_false_iff_not]; omega
  have hopen : (decide (z.tallies.offeredSum = 0) && decide (0 < z.tallies.offeredSum)) = false := by
    simp only [Bool.and_eq_false_iff, decide_eq_false_iff_not]; omega
  simp only [Zone.takeTallies, hload, hfull, hopen, Zone.raiseIf_false]
  rfl

/-! ## Bindings -/

/-- Two node records have one kind, one row and bay count, and one entrance. -/
structure Node.SameBinding (m n : Node) : Prop where
  kind : n.service.kind = m.service.kind
  row : n.service.rowBinding = m.service.rowBinding
  entrance : n.service.answer.map Prod.fst = m.service.answer.map Prod.fst

theorem Node.SameBinding.refl (n : Node) : n.SameBinding n := ⟨rfl, rfl, rfl⟩

theorem Node.SameLink.binding {m n : Node} (h : m.SameLink n) : m.SameBinding n := ⟨h.kind, h.row, by rw [h.answer]⟩

theorem Service.kind_eq_fan {v : Service} : v.kind = some .fan ↔ v = .fan := by
  cases v <;> simp [Service.kind]

theorem Service.kind_eq_sign {v : Service} : v.kind = some .sign ↔ v = .sign := by
  cases v <;> simp [Service.kind]

theorem Node.SameBinding.gas {m n : Node} (h : m.SameBinding n) (hm : m.service = .gas) : n.service = .gas :=
  Service.kind_eq_gas (h.kind.trans (by rw [hm]; rfl))

theorem Node.SameBinding.fan {m n : Node} (h : m.SameBinding n) (hm : m.service = .fan) : n.service = .fan :=
  Service.kind_eq_fan.mp (h.kind.trans (by rw [hm]; rfl))

theorem Node.SameBinding.sign {m n : Node} (h : m.SameBinding n) (hm : m.service = .sign) : n.service = .sign :=
  Service.kind_eq_sign.mp (h.kind.trans (by rw [hm]; rfl))

/-- A symmetric relation that holds along a list holds of any two different items of it. -/
theorem rel_of_pairwise {α : Type} {R : α → α → Prop} (hsymm : ∀ a b, R a b → R b a) {l : List α} (h : l.Pairwise R) {a b : α}
    (ha : a ∈ l) (hb : b ∈ l) (hne : a ≠ b) : R a b := by
  have hforth : l.Pairwise fun a b => a ≠ b → R a b := h.imp fun {a b} hr (_ : a ≠ b) => hr
  have hback : l.Pairwise fun a b => b ≠ a → R b a := h.imp fun {a b} hr (_ : b ≠ a) => hsymm a b hr
  exact List.Pairwise.forall_of_forall_of_flip (fun _ _ h => absurd rfl h) hforth hback ha hb hne

theorem flatMap_of_same {α β : Type} {l : List α} {f g : α → List β} (h : ∀ a ∈ l, f a = g a) : l.flatMap f = l.flatMap g := by
  rw [List.flatMap_def, List.flatMap_def, List.map_congr_left h]

/-- A value that the listed records of a table give is given once exactly when no two numbers give it. -/
theorem Table.nodup_filterMap_iff {α β : Type} [DecidableEq α] (d : α) (bound : Nat) (t : Table α)
    (hw : Table.wf d bound t = true) (f : α → Option β) (hd : f d = none) :
    (t.filterMap fun e => f e.2).Nodup
      ↔ ∀ j k r, f (Table.get d t j) = some r → f (Table.get d t k) = some r → j = k := by
  have hlisted : ∀ k r, f (Table.get d t k) = some r → (k, Table.get d t k) ∈ t := fun k r hk =>
    Table.mem_of_get_ne fun heq => by rw [heq, hd] at hk; cases hk
  rw [List.Nodup, List.pairwise_filterMap]
  constructor
  · intro hp j k r hj hk
    refine Classical.byContradiction fun hne => ?_
    exact rel_of_pairwise (fun a a' h b hb b' hb' heq => h b' hb' b hb heq.symm) hp (hlisted j r hj) (hlisted k r hk)
      (fun heq => hne (congrArg Prod.fst heq)) r hj r hk rfl
  · intro hall
    refine ((Table.wf_iff _ _ _).mp hw).1.imp_of_mem fun {a b} ha hb hlt r hr r' hr' heq => ?_
    have hga := Table.get_of_mem d bound t hw a.1 a.2 ha
    have hgb := Table.get_of_mem d bound t hw b.1 b.2 hb
    exact absurd (hall a.1 b.1 r (hga ▸ hr) (hgb ▸ heq ▸ hr')) (Nat.ne_of_lt hlt)

/-- What the nodes of a legal state bind, given once: read off the records. -/
theorem State.Legal.nodup_bindings {s : State} (h : s.Legal) {β : Type} (f : Service → Option β) (hf : f .none = none) :
    (s.nodes.filterMap fun e => f e.2.service).Nodup
      ↔ ∀ j k r, f (s.node (nodeIdOf j)).service = some r → f (s.node (nodeIdOf k)).service = some r → j = k := by
  have hnode : ∀ k, s.node (nodeIdOf k) = Table.get Node.powerOn s.nodes k := fun k => by rw [State.node, nodeIdOf_key]
  simp only [hnode]
  exact Table.nodup_filterMap_iff Node.powerOn 256 s.nodes h.nodesWf (fun n => f n.service) hf

/-- Sound bindings stay so when every slot, stage and sign names what it named and every node binds what it bound. -/
theorem State.BindingsSound.of_same {s t : State} (h : s.BindingsSound) (hs : s.Legal) (ht : t.Legal)
    (zones : ∀ z, z < 32 → (s.zone z).SameNames (t.zone z)) (signs : ∀ i, (t.sign i).node = (s.sign i).node)
    (nodes : ∀ id, (s.node id).SameBinding (t.node id)) : t.BindingsSound := by
  refine ⟨fun z hz g hg => ?_, fun z hz g hg => ?_, fun i hi id hid => ?_, ?_, ?_, ?_, ?_, ?_⟩
  · have hmem : (g.node, g.channel) ∈ (s.zone z).slots.map fun g => (g.node, g.channel) :=
      (zones z hz).slots ▸ List.mem_map_of_mem (f := fun g : Slot => (g.node, g.channel)) hg
    obtain ⟨g', hg', heq⟩ := List.mem_map.mp hmem
    obtain ⟨hnode, -⟩ := Prod.mk.inj heq
    exact (nodes g.node).gas (hnode ▸ h.slots z hz g' hg')
  · have hmem : g.node ∈ (s.zone z).stages.map (·.node) :=
      (zones z hz).stages ▸ List.mem_map_of_mem (f := fun g : Stage => g.node) hg
    obtain ⟨g', hg', hnode⟩ := List.mem_map.mp hmem
    exact (nodes g.node).fan (hnode ▸ h.stages z hz g' hg')
  · exact (nodes id).sign (h.signs i hi id (signs i ▸ hid))
  · rw [flatMap_of_same fun z hz => (zones z (List.mem_range.mp hz)).slots]
    exact h.channelsOnce
  · rw [flatMap_of_same fun z hz => (zones z (List.mem_range.mp hz)).stages]
    exact h.fansOnce
  · rw [show (fun i => (t.sign i).node) = fun i => (s.sign i).node from funext signs]
    exact h.signsOnce
  · have hrows := (hs.nodup_bindings (fun v => v.rowBinding.map (·.1)) rfl).mp h.rowsOnce
    refine (ht.nodup_bindings (fun v => v.rowBinding.map (·.1)) rfl).mpr ?_
    simpa only [(nodes _).row] using hrows
  · have hentrances := (hs.nodup_bindings (fun v => v.answer.map (·.1)) rfl).mp h.entrancesOnce
    refine (ht.nodup_bindings (fun v => v.answer.map (·.1)) rfl).mpr ?_
    simpa only [(nodes _).entrance] using hentrances

/-! ## Darkness and lines -/

/-- What a bay is watched by: a LIVE ROW node with a bay count above its offset, on a SCANNING line (R8). -/
theorem State.Watched.of_live {s t : State} {b : Nat} (h : s.Watched b)
    (nodes : ∀ id, (s.node id).state = .live → (t.node id).state = .live)
    (rows : ∀ id, (t.node id).service.rowBinding = (s.node id).service.rowBinding)
    (lines : ∀ l, (s.line l).state = .scanning → (t.line l).state = .scanning) : t.Watched b := by
  obtain ⟨id, r, n, lights, hid, hlive, hscan, hservice, hrow, hlt⟩ := h
  have hbinding : (t.node id).service.rowBinding = some (r, n) := by rw [rows, hservice]; rfl
  cases hservice' : (t.node id).service <;> rw [hservice'] at hbinding <;> simp only [Service.rowBinding] at hbinding <;>
    try cases hbinding
  exact ⟨id, _, _, _, hid, nodes id hlive, lines _ hscan, hservice', hrow, hlt⟩

end Sys2Proof.Machine
end

section
/-! SUPPORT. What every command keeps, part two: the changes that move no binding and no count, and the marks, events, signs and
light sets that are such changes. -/

namespace Sys2Proof.Machine

/-! ## One property at a time -/

section
variable {s t : State}

theorem State.TalliesBut.of_same {zs : List Nat} (h : s.TalliesBut zs) (bays : t.bays = s.bays)
    (zones : ∀ z, z < 32 → z ∉ zs → (t.zone z).tallies = (s.zone z).tallies ∧ (t.zone z).inUse = (s.zone z).inUse
      ∧ (t.zone z).shed = (s.zone z).shed) : t.TalliesBut zs := fun z hz hnot => by
  obtain ⟨htallies, hinUse, hshed⟩ := zones z hz hnot
  rw [htallies, State.tallyOf_congr bays hinUse hshed]
  exact h z hz hnot

theorem State.bay_of_bays {s t : State} (h : t.bays = s.bays) (b : Nat) : t.bay b = s.bay b := by
  rw [State.bay, State.bay, h]

theorem State.DarkBut.of_watched {p q : Nat → Prop} (h : s.DarkBut p) (bays : t.bays = s.bays)
    (watched : ∀ b, ¬ q b → ¬ p b ∧ (s.Watched b → t.Watched b)) : t.DarkBut q := fun b hb hcls hwatched hq => by
  rw [State.bay_of_bays bays] at hcls ⊢
  obtain ⟨hp, hkept⟩ := watched b hq
  exact h b hb hcls (fun hw => hwatched (hkept hw)) hp

/-- A zone record with its power-on values but for its pending set (R28). -/
def Zone.Bare (z : Zone) : Prop := z = { Zone.powerOn with pending := z.pending }

theorem Zone.Bare.inUse {z : Zone} (h : z.Bare) : z.inUse = false := congrArg Zone.inUse h

theorem Zone.Bare.slots {z : Zone} (h : z.Bare) : z.slots = [] := congrArg Zone.slots h

theorem Zone.Bare.stages {z : Zone} (h : z.Bare) : z.stages = [] := congrArg Zone.stages h

theorem Zone.Bare.tallies {z : Zone} (h : z.Bare) : z.tallies = .zero := congrArg Zone.tallies h

theorem Zone.Bare.raise {z : Zone} (h : z.Bare) (k : EventKind) : (z.raise k).Bare := by
  unfold Zone.Bare at h ⊢
  rw [Zone.raise]
  exact congrArg (fun x : Zone => { x with pending := raised z.cfg.mask k z.pending }) h

theorem State.FreeZonesBare.of_same (h : s.FreeZonesBare) (bays : t.bays = s.bays)
    (signs : ∀ i, (t.sign i).zones = (s.sign i).zones)
    (zones : ∀ z, z < 32 → (t.zone z).inUse = false → (s.zone z).inUse = false ∧ ((s.zone z).Bare → (t.zone z).Bare)) :
    t.FreeZonesBare := fun z hz hfree => by
  obtain ⟨hbefore, hbare⟩ := zones z hz hfree
  obtain ⟨hrecord, hbays, hsigns⟩ := h z hz hbefore
  refine ⟨hbare hrecord, fun b hb => ?_, fun i hi => signs i ▸ hsigns i hi⟩
  rw [State.bay_of_bays bays]
  exact hbays b hb

theorem State.LinesBut.of_same {p : Nat → Prop} (h : s.LinesBut p)
    (off : ∀ id, (t.node id).state = .off ↔ (s.node id).state = .off)
    (idle : ∀ l, (t.line l).state = .idle ↔ (s.line l).state = .idle)
    (visits : ∀ l, ∀ v ∈ (t.line l).visit, v.retired = false →
      (t.node ⟨l, v.address⟩).state ≠ .off ∨ v ∈ (s.line l).visit) : t.LinesBut p := fun l hl hp => by
  obtain ⟨hidle, hvisits⟩ := h l hl hp
  refine ⟨?_, fun v hv hcurrent => ?_⟩
  · rw [idle, hidle]
    simp only [off]
  · rcases visits l v hv hcurrent with hon | hv
    · exact hon
    · exact fun hoff => hvisits v hv hcurrent ((off _).mp hoff)

/-- In legal states a record is OFF exactly as it was when its binding is what it was (R65). -/
theorem State.Legal.off_iff_of_binding (hs : s.Legal) (ht : t.Legal) {id : NodeId}
    (h : (s.node id).SameBinding (t.node id)) : (t.node id).state = .off ↔ (s.node id).state = .off := by
  have hnone : ∀ v : Service, v = .none ↔ v.kind = none := fun v => by cases v <;> simp [Service.kind]
  rw [(ht.node id).off_iff_service, (hs.node id).off_iff_service, hnone, hnone, h.kind]

/-! ## Changes that no other record reads -/

/-- Zone record `x` changed to `y` with its names, its use, its shed condition and its tallies kept. -/
structure Zone.Quiet (x y : Zone) : Prop where
  sound : x.Sound y
  names : x.SameNames y
  inUse : y.inUse = x.inUse
  shed : y.shed = x.shed
  tallies : y.tallies = x.tallies
  bare : x.Bare → y.Bare

theorem Zone.Quiet.refl (x : Zone) : x.Quiet x := ⟨.refl x, .refl x, rfl, rfl, rfl, id⟩

theorem Zone.raise_quiet (z : Zone) (k : EventKind) : z.Quiet (z.raise k) :=
  ⟨z.raise_sound k, ⟨rfl, rfl⟩, rfl, rfl, rfl, fun h => h.raise k⟩

/-- State `s` changed to `t` with every binding, count and line state kept; what the change leaves unwatched is not said. -/
structure State.Quiet (s t : State) : Prop where
  bays : t.bays = s.bays
  zones : ∀ z, z < 32 → (s.zone z).Quiet (t.zone z)
  binding : ∀ id, (s.node id).SameBinding (t.node id)
  signs : ∀ i, (s.sign i).SameFields (t.sign i)
  idle : ∀ l, (t.line l).state = .idle ↔ (s.line l).state = .idle
  visits : ∀ l, ∀ v ∈ (t.line l).visit, v.retired = false → (t.node ⟨l, v.address⟩).state ≠ .off ∨ v ∈ (s.line l).visit

theorem State.Quiet.keeps_unwatched (h : s.Quiet t) (hs : s.Legal) (ht : t.Legal) {E : Unsettled} {q : Nat → Prop}
    (watched : ∀ b, ¬ q b → ¬ E.bays b ∧ (s.Watched b → t.Watched b)) : s.Keeps E { E with bays := q } t where
  legal := ht
  tallies := fun k => k.of_same h.bays fun z hz _ => ⟨(h.zones z hz).tallies, (h.zones z hz).inUse, (h.zones z hz).shed⟩
  dark := fun k => k.of_watched h.bays watched
  sequencers := fun k z hz => (h.zones z hz).sound.sequencer (hs.zone z) (k z hz)
  figures := fun k z hz => (h.zones z hz).sound.figures (k z hz)
  bindings := fun k => k.of_same hs ht (fun z hz => (h.zones z hz).names) (fun i => (h.signs i).node) h.binding
  free := fun k => k.of_same h.bays (fun i => (h.signs i).zones)
    fun z hz hfree => ⟨(h.zones z hz).inUse ▸ hfree, (h.zones z hz).bare⟩
  lines := fun k => k.of_same (fun id => hs.off_iff_of_binding ht (h.binding id)) h.idle h.visits

/-- A quiet change that leaves LIVE nodes LIVE and SCANNING lines SCANNING. -/
theorem State.Quiet.keeps (h : s.Quiet t) (hs : s.Legal) (ht : t.Legal) (E : Unsettled)
    (live : ∀ id, (s.node id).state = .live → (t.node id).state = .live)
    (scanning : ∀ l, (s.line l).state = .scanning → (t.line l).state = .scanning) : s.Keeps E E t :=
  h.keeps_unwatched hs ht fun _ hb => ⟨hb, fun hw => hw.of_live live (fun id => (h.binding id).row) scanning⟩

theorem State.HandOver.quiet (h : s.HandOver t) (zones : ∀ z, z < 32 → (s.zone z).Quiet (t.zone z)) : s.Quiet t where
  bays := h.bays
  zones := zones
  binding := fun id => (h.frame.nodes id).binding
  signs := h.frame.signs
  idle := fun l => by rw [State.line, State.line, h.frame.lines]
  visits := fun l v hv _ => .inr (by rwa [State.line, h.frame.lines] at hv)

/-- A change by hand-over that keeps the counts. -/
theorem State.HandOver.keeps (h : s.HandOver t) (hs : s.Legal) (ht : t.Legal)
    (zones : ∀ z, z < 32 → (s.zone z).Quiet (t.zone z)) (E : Unsettled) : s.Keeps E E t :=
  (h.quiet zones).keeps hs ht E (fun id hlive => (h.frame.nodes id).state.trans hlive)
    fun l hl => by rwa [State.line, h.frame.lines]

theorem State.HandOver.keeps_of_zones (h : s.HandOver t) (hs : s.Legal) (ht : t.Legal) (zones : t.zones = s.zones)
    (E : Unsettled) : s.Keeps E E t :=
  h.keeps hs ht (fun z _ => by rw [State.zone_of_zones zones]; exact .refl _) E

/-- Fields that no property reads. -/
theorem State.Keeps.aside (hs : s.Legal) (ht : t.Legal) (bays : t.bays = s.bays) (zones : t.zones = s.zones)
    (nodes : t.nodes = s.nodes) (signs : t.signs = s.signs) (lines : t.lines = s.lines) (E : Unsettled) : s.Keeps E E t := by
  have hnode : ∀ id, t.node id = s.node id := fun id => by rw [State.node, State.node, nodes]
  have hline : ∀ l, t.line l = s.line l := fun l => by rw [State.line, State.line, lines]
  refine State.Quiet.keeps ⟨bays, fun z _ => ?_, fun id => ?_, fun i => ?_, fun l => ?_, fun l v hv _ => ?_⟩ hs ht E
    (fun id hlive => ?_) fun l hl => ?_
  · rw [State.zone_of_zones zones]
    exact .refl _
  · rw [hnode]
    exact .refl _
  · rw [State.sign, State.sign, signs]
    exact .refl _
  · rw [hline]
  · exact .inr (hline l ▸ hv)
  · rwa [hnode]
  · rwa [hline]

end

/-! ## Legal records through marks, signs and light sets -/

theorem Node.Legal.marked {n : Node} (h : n.Legal) (hon : n.state ≠ .off) (p : Bool) :
    ({ n with outputPending := p } : Node).Legal := by
  obtain ⟨-, hservice, hmisses, hlive, hbarred, hlegal, hanswer⟩ := h
  exact ⟨fun hoff => absurd hoff hon, hservice, hmisses, hlive, hbarred, hlegal, hanswer⟩

theorem mem_distinct {x : Nat} {l : List Nat} : x ∈ distinct l ↔ x ∈ l := by
  induction l with
  | nil => rfl
  | cons y l ih =>
    simp only [distinct, List.mem_cons, List.mem_filter, ih, decide_eq_true_eq]
    by_cases hx : x = y <;> simp [hx]

section
variable {s : State} (h : s.Legal)
include h

theorem State.Legal.markOutput (id : NodeId) : (s.markOutput id).Legal := by
  unfold State.markOutput
  split
  · exact h
  · rename_i hon
    exact h.setNode_on hon ((h.node id).marked hon true)

theorem State.Legal.markSignNode (id : Option NodeId) : (s.markSignNode id).Legal := by
  cases id
  · exact h
  · exact h.markOutput _

theorem State.Legal.recomputeSign {i : Nat} (hi : i < 32) : (s.recomputeSign i).Legal := by
  unfold State.recomputeSign
  dsimp only
  split
  · exact h
  · obtain ⟨hnode, hlen, htext, -⟩ := h.sign i
    have hset := h.setSign hi (x := { s.sign i with value := s.signCount (s.sign i).zones (s.sign i).filter })
      ⟨hnode, hlen, htext, Nat.min_le_left _ _⟩
    split
    · exact hset.markSignNode _
    · exact hset

theorem State.Legal.recomputeLights (k : Nat) : (s.recomputeLights k).Legal := by
  unfold State.recomputeLights
  dsimp only
  split
  · rename_i r n lights hservice
    split
    · exact h
    · have hon : (s.node (nodeIdOf k)).state ≠ .off := h.on_of_kind (k := .row) (by rw [hservice]; rfl)
      obtain ⟨-, -, hmisses, hlive, hbarred, hlegal, -⟩ := h.node (nodeIdOf k)
      rw [hservice] at hlegal
      exact h.setNode_on hon ⟨fun hoff => absurd hoff hon, fun _ => Service.noConfusion, hmisses, hlive, fun _ => rfl, hlegal,
        fun ha => by cases ha⟩
  all_goals exact h

theorem State.Legal.signsOver (zs : List Nat) : (s.signsOver zs).Legal := by
  unfold State.signsOver
  suffices H : ∀ l : List Nat, (∀ i ∈ l, i < 32) → ∀ {s : State}, s.Legal → (l.foldl State.recomputeSign s).Legal from
    H _ (fun i hi => List.mem_range.mp (List.mem_filter.mp hi).1) h
  intro l
  induction l with
  | nil => exact fun _ _ h => h
  | cons i l ih =>
    exact fun hl s h => ih (fun j hj => hl j (List.mem_cons_of_mem i hj)) (h.recomputeSign (hl i List.mem_cons_self))

theorem State.Legal.recomputeLightsOf (l : List Nat) : (l.foldl State.recomputeLights s).Legal :=
  h.foldl (fun _ k hk => hk.recomputeLights k) l

/-! ## What they keep -/

variable (E : Unsettled)

theorem State.markOutput_keeps (id : NodeId) : s.Keeps E E (s.markOutput id) :=
  (s.markOutput_handOver id).keeps_of_zones h (h.markOutput id) (s.markOutput_zones id) E

theorem State.signsOver_keeps (zs : List Nat) : s.Keeps E E (s.signsOver zs) :=
  (s.signsOver_handOver zs).keeps_of_zones h (h.signsOver zs) (s.signsOver_zones zs) E

theorem State.lightsOfRows_keeps (rows : List Nat) : s.Keeps E E (s.lightsOfRows rows) :=
  (s.lightsOfRows_handOver rows).keeps_of_zones h (h.recomputeLightsOf _) (s.lightsOfRows_zones rows) E

theorem State.lightsOfZone_keeps (z : Nat) : s.Keeps E E (s.lightsOfZone z) :=
  (s.lightsOfZone_handOver z).keeps_of_zones h (h.recomputeLightsOf _) (s.lightsOfZone_zones z) E

theorem State.allLights_keeps : s.Keeps E E s.allLights :=
  (s.allLights_handOver).keeps_of_zones h (h.recomputeLightsOf _) s.allLights_zones E

theorem State.raiseZone_keeps {z : Nat} (hz : z < 32) (k : EventKind) : s.Keeps E E (s.raiseZone k z) := by
  have hx := (s.zone z).raise_quiet k
  refine (s.setZone_handOver z _ ((s.zone z).raise_inputs k).air).keeps h (h.setZone hz (hx.sound.legal (h.zone z)))
    (fun i _ => ?_) E
  rw [State.zone_setZone]
  split
  · rename_i heq
    exact heq ▸ hx
  · exact .refl _

omit h in
theorem siteLegal.maskKinds {c : SiteParams} (h : siteLegal c) : onlyKindsOf siteKinds c.mask = true := by
  have hc := h.1
  simp only [siteParamsInRange, Bool.and_eq_true] at hc
  exact hc.2

theorem State.raiseSite_keeps (k : EventKind) : s.Keeps E E (s.raiseSite k) :=
  .aside h (h.setSitePending (raised_onlyKindsOf h.site.maskKinds h.sitePending k)) rfl rfl rfl rfl rfl E

/-- NODE_SILENT or NODE_BACK raised where R88 says. -/
theorem State.raiseNodeEvent_keeps (id : NodeId) (k : EventKind) : s.Keeps E E (s.raiseNodeEvent id k) := by
  have hzones : ∀ z ∈ s.eventZones id, z < 32 := by
    intro z hz
    unfold State.eventZones at hz
    split at hz
    · obtain ⟨b, hb, rfl⟩ := List.mem_map.mp (mem_distinct.mp hz)
      obtain ⟨i, -, rfl⟩ := List.mem_map.mp (List.mem_filter.mp hb).1
      exact (h.bay _).1
    · exact ((s.mem_zonesWhere _ z).mp hz).1
    · exact ((s.mem_zonesWhere _ z).mp hz).1
    all_goals exact absurd hz List.not_mem_nil
  unfold State.raiseNodeEvent
  split
  · exact State.raiseSite_keeps h E k
  · rename_i z zs heq
    exact .foldl _ (fun y hy t ht => State.raiseZone_keeps ht E (hzones y (heq ▸ hy)) k) h

end

end Sys2Proof.Machine
end

section
/-! SUPPORT. What every command keeps, part three: one change of the bay table with its hand-overs, and a change of a zone
record with its own. -/

namespace Sys2Proof.Machine

variable {s : State} (B L : Nat → Prop)

/-! ## Bays -/

/-- Bay `b` may be written as record `x`: where it is then in service its zone is IN_USE or the one it was in, and where it is
then in service and not DARK it is watched or was so before (R8, R28). -/
structure State.BayWritten (s : State) (b : Nat) (x : Bay) : Prop where
  place : b < 2048
  legal : x.Legal
  zone : x.cls ≠ .retired → (s.zone x.zone).inUse = true ∨ (s.bay b).cls ≠ .retired ∧ (s.bay b).zone = x.zone
  dark : x.cls ≠ .retired → x.census ≠ .dark → s.Watched b ∨ (s.bay b).cls ≠ .retired ∧ (s.bay b).census ≠ .dark

theorem State.setBay_keeps (hs : s.Legal) {b : Nat} {x : Bay} (h : s.BayWritten b x) {zs : List Nat}
    (hold : (s.bay b).zone ∈ zs) (hnew : x.zone ∈ zs) : s.Keeps ⟨zs, B, L⟩ ⟨zs, B, L⟩ (s.setBay b x) where
  legal := hs.setBay h.place h.legal
  tallies := fun k z hz hnot => by
    have hleft : (s.bay b).zone ≠ z := fun heq => hnot (by rwa [heq] at hold)
    have hjoined : x.zone ≠ z := fun heq => hnot (by rwa [heq] at hnew)
    rw [hs.tallyOf_setBay hleft hjoined]
    exact k z hz hnot
  dark := fun k i hi hcls hwatched hB => by
    rw [State.bay_setBay] at hcls ⊢
    split at hcls
    · rename_i heq
      subst heq
      rw [if_pos rfl]
      refine Classical.byContradiction fun hdark => ?_
      rcases h.dark hcls hdark with hw | ⟨hservice, hnot⟩
      · exact hwatched hw
      · exact hnot (k i hi hservice hwatched hB)
    · rename_i hne
      rw [if_neg hne]
      exact k i hi hcls hwatched hB
  sequencers := id
  figures := id
  bindings := fun k => { k with }
  free := fun k z hz hfree => by
    obtain ⟨hrecord, hbays, hsigns⟩ := k z hz hfree
    refine ⟨hrecord, fun i hi => ?_, hsigns⟩
    rw [State.bay_setBay]
    split
    · rename_i heq
      subst heq
      intro hservice hzone
      rcases h.zone hservice with huse | ⟨hwas, hsame⟩
      · rw [hzone] at huse
        exact Bool.noConfusion (huse.symm.trans hfree)
      · exact hbays i hi hwas (hsame.trans hzone)
    · exact hbays i hi
  lines := id

/-- Every bay of a list written, with the zones it touches left to be counted (R18). -/
theorem State.writeBays_keeps {changes : List (Nat × Bay)} {zs : List Nat} (hs : s.Legal)
    (hnodup : (changes.map Prod.fst).Nodup) (hw : ∀ e ∈ changes, s.BayWritten e.1 e.2)
    (hzs : ∀ e ∈ changes, (s.bay e.1).zone ∈ zs ∧ e.2.zone ∈ zs) :
    s.Keeps ⟨zs, B, L⟩ ⟨zs, B, L⟩ (writeBays s changes) := by
  induction changes generalizing s with
  | nil => exact .refl hs _
  | cons e changes ih =>
    obtain ⟨hfresh, hrest⟩ := List.nodup_cons.mp hnodup
    obtain ⟨hold, hnew⟩ := hzs e List.mem_cons_self
    have hother : ∀ e' ∈ changes, (s.setBay e.1 e.2).bay e'.1 = s.bay e'.1 := fun e' he' => by
      have hne : e'.1 ≠ e.1 := fun heq => hfresh (List.mem_map.mpr ⟨e', he', heq⟩)
      rw [State.bay_setBay, if_neg hne]
    refine (State.setBay_keeps B L hs (hw e List.mem_cons_self) hold hnew).trans fun ht => ?_
    refine ih ht hrest (fun e' he' => ?_) fun e' he' => ?_
    · obtain ⟨hplace, hlegal, hzone, hdark⟩ := hw e' (List.mem_cons_of_mem e he')
      rw [← hother e' he'] at hzone hdark
      exact ⟨hplace, hlegal, hzone, hdark⟩
    · rw [hother e' he']
      exact hzs e' (List.mem_cons_of_mem e he')

/-! ## A zone record -/

theorem State.tallyOf_setZone (s : State) {z : Nat} {x : Zone} (inUse : x.inUse = (s.zone z).inUse)
    (shed : x.shed = (s.zone z).shed) : (s.setZone z x).tallyOf z = s.tallyOf z :=
  State.tallyOf_congr rfl (by rw [State.zone_setZone_self, inUse]) (by rw [State.zone_setZone_self, shed])

theorem State.FreeZonesBare.setZone (h : s.FreeZonesBare) {z : Nat} {x : Zone}
    (hx : x.inUse = false → (s.zone z).inUse = false ∧ ((s.zone z).Bare → x.Bare)) : (s.setZone z x).FreeZonesBare := by
  refine h.of_same rfl (fun _ => rfl) fun i _ hfree => ?_
  rw [State.zone_setZone] at hfree ⊢
  split at hfree
  · rename_i heq
    rw [if_pos heq, heq]
    exact hx hfree
  · rename_i hne
    rw [if_neg hne]
    exact ⟨hfree, id⟩

theorem State.BindingsSound.setZone (h : s.BindingsSound) (hs : s.Legal) {z : Nat} (hz : z < 32) {x : Zone} (hx : x.Legal)
    (names : (s.zone z).SameNames x) : (s.setZone z x).BindingsSound := by
  refine h.of_same hs (hs.setZone hz hx) (fun i _ => ?_) (fun _ => rfl) fun _ => .refl _
  rw [State.zone_setZone]
  split
  · rename_i heq
    exact heq ▸ names
  · exact .refl _

section
variable {z : Nat} {x : Zone} (hs : s.Legal) (hz : z < 32) (sound : (s.zone z).Sound x)
  (bindings : s.BindingsSound → (s.setZone z x).BindingsSound) (free : s.FreeZonesBare → (s.setZone z x).FreeZonesBare)
include hs hz sound bindings free

/-- A zone record written, its tallies counted or left to be counted. -/
theorem State.setZone_keeps {zs zs' : List Nat} (hzs : ∀ y, y ≠ z → y ∈ zs → y ∈ zs')
    (tallies : z ∉ zs' → (z ∉ zs → (s.zone z).tallies = s.tallyOf z) → x.tallies = (s.setZone z x).tallyOf z) :
    s.Keeps ⟨zs, B, L⟩ ⟨zs', B, L⟩ (s.setZone z x) where
  legal := hs.setZone hz (sound.legal (hs.zone z))
  tallies := fun k i hi hnot => by
    by_cases heq : i = z
    · subst heq
      rw [State.zone_setZone_self]
      exact tallies hnot (k i hi)
    · have hzone : (s.setZone z x).zone i = s.zone i := by rw [State.zone_setZone, if_neg heq]
      have hcount : (s.setZone z x).tallyOf i = s.tallyOf i := State.tallyOf_congr rfl (by rw [hzone]) (by rw [hzone])
      rw [hzone, hcount]
      exact k i hi fun hmem => hnot (hzs i heq hmem)
  dark := id
  sequencers := fun k i hi => by
    rw [State.zone_setZone]
    split
    · exact sound.sequencer (hs.zone z) (k z hz)
    · exact k i hi
  figures := fun k i hi => by
    rw [State.zone_setZone]
    split
    · exact sound.figures (k z hz)
    · exact k i hi
  bindings := bindings
  free := free
  lines := id

theorem State.putZone_keeps_counted {zs zs' : List Nat} (hzs : ∀ y, y ≠ z → y ∈ zs → y ∈ zs')
    (tallies : z ∉ zs' → (z ∉ zs → (s.zone z).tallies = s.tallyOf z) → x.tallies = (s.setZone z x).tallyOf z) :
    s.Keeps ⟨zs, B, L⟩ ⟨zs', B, L⟩ (s.putZone z x) :=
  (State.setZone_keeps B L hs hz sound bindings free hzs tallies).trans fun ht =>
    .foldl _ (fun id _ _ hu => State.markOutput_keeps hu _ id) ht

end

/-- The tallies of a zone counted afresh (R18). A FREE zone has none (R28). -/
theorem State.retally_keeps (hs : s.Legal) {z : Nat} (hz : z < 32) (zs : List Nat) :
    s.Keeps ⟨z :: zs, B, L⟩ ⟨zs, B, L⟩ (s.retally z) := by
  have hair := (s.zone z).takeTallies_air (s.tallyOf z)
  have hsound := (s.zone z).takeTallies_sound (s.tallyOf z)
  refine State.putZone_keeps_counted B L hs hz hsound
    (fun k => k.setZone hs hz (hsound.legal (hs.zone z)) (hair.names ((s.zone z).takeTallies_runs _).names))
    (fun k => k.setZone fun hfree => ⟨hair.inUse ▸ hfree, fun hbare => ?_⟩)
    (fun y hne hy => (List.mem_cons.mp hy).resolve_left hne) fun _ _ => ?_
  · have hzero : s.tallyOf z = (s.zone z).tallies := by
      rw [hs.tallyOf_none (k z hz (hair.inUse ▸ hfree)).2.1, hbare.tallies]
    rw [hzero, Zone.takeTallies_same]
    exact hbare
  · rw [Zone.takeTallies_tallies, s.tallyOf_setZone hair.inUse hair.shed]

theorem State.retallies_keeps (hs : s.Legal) {zs : List Nat} (hzs : ∀ z ∈ zs, z < 32) :
    s.Keeps ⟨zs, B, L⟩ ⟨[], B, L⟩ (zs.foldl State.retally s) := by
  induction zs generalizing s with
  | nil => exact .refl hs _
  | cons z zs ih =>
    exact (State.retally_keeps B L hs (hzs z List.mem_cons_self) zs).trans fun ht =>
      ih ht fun y hy => hzs y (List.mem_cons_of_mem z hy)

/-- One change of the bay table with its hand-overs keeps everything (R18). -/
theorem State.censusChange_keeps (hs : s.Legal) {changes : List (Nat × Bay)} (hnodup : (changes.map Prod.fst).Nodup)
    (hw : ∀ e ∈ changes, s.BayWritten e.1 e.2) : s.Keeps ⟨[], B, L⟩ ⟨[], B, L⟩ (s.censusChange changes) := by
  let zs := distinct (changes.flatMap fun e => [(s.bay e.1).zone, e.2.zone])
  have htouched : ∀ e ∈ changes, (s.bay e.1).zone ∈ zs ∧ e.2.zone ∈ zs := fun e he => by
    simp only [zs, mem_distinct, List.mem_flatMap, List.mem_cons, List.not_mem_nil, or_false]
    exact ⟨⟨e, he, .inl rfl⟩, ⟨e, he, .inr rfl⟩⟩
  have hbound : ∀ z ∈ zs, z < 32 := fun z hz => by
    simp only [zs, mem_distinct, List.mem_flatMap, List.mem_cons, List.not_mem_nil, or_false] at hz
    obtain ⟨e, he, rfl | rfl⟩ := hz
    · exact (hs.bay e.1).1
    · exact (hw e he).legal.1
  have hstart : s.Keeps ⟨[], B, L⟩ ⟨zs, B, L⟩ s :=
    ⟨hs, fun k z hz _ => k z hz List.not_mem_nil, id, id, id, id, id, id⟩
  exact hstart.trans fun hs => (State.writeBays_keeps B L hs hnodup hw htouched).trans fun ht =>
    (State.retallies_keeps B L ht hbound).trans fun hu => (State.signsOver_keeps hu _ zs).trans fun hv =>
    State.lightsOfRows_keeps hv _ _

/-- A zone record changed in its fume part or configuration, with its hand-overs (R30, R32, R103). -/
theorem State.changeZone_keeps {z : Nat} {x : Zone} (hs : s.Legal) (hz : z < 32) (sound : (s.zone z).Sound x)
    (bindings : s.BindingsSound → (s.setZone z x).BindingsSound) (free : s.FreeZonesBare → (s.setZone z x).FreeZonesBare)
    (tallies : x.inUse = (s.zone z).inUse → (s.zone z).tallies = s.tallyOf z → x.tallies = s.tallyOf z) :
    s.Keeps ⟨[], B, L⟩ ⟨[], B, L⟩ (s.changeZone z x) := by
  have hlights : ∀ {t : State}, s.Keeps ⟨[], B, L⟩ ⟨[], B, L⟩ t → ∀ p : Prop, [Decidable p] →
      s.Keeps ⟨[], B, L⟩ ⟨[], B, L⟩ (if p then t else t.lightsOfZone z) := fun k p _ => by
    split
    · exact k
    · exact k.trans fun ht => State.lightsOfZone_keeps ht _ z
  refine hlights ?_ _
  split
  · rename_i heq
    refine State.putZone_keeps_counted B L hs hz sound bindings free (fun _ _ h => h) fun _ k => ?_
    rw [s.tallyOf_setZone heq.2.symm heq.1.symm]
    exact tallies heq.2.symm (k List.not_mem_nil)
  · refine (State.putZone_keeps_counted B L hs hz sound bindings free (zs' := [z]) (fun _ _ h => absurd h List.not_mem_nil)
      fun hnot => ?_).trans fun ht => (State.retally_keeps B L ht hz []).trans fun hu => State.signsOver_keeps hu _ [z]
    exact absurd (List.mem_singleton_self z) hnot

end Sys2Proof.Machine
end

section
/-! SUPPORT. What every command keeps, part four: the changes of the bay table that the commands make. -/

namespace Sys2Proof.Machine

/-! ## The bay records after a change -/

theorem State.bay_writeBays_of_not_mem {changes : List (Nat × Bay)} {b : Nat} (hb : b ∉ changes.map Prod.fst) (s : State) :
    (writeBays s changes).bay b = s.bay b := by
  induction changes generalizing s with
  | nil => rfl
  | cons e changes ih =>
    rw [List.map_cons, List.mem_cons, not_or] at hb
    exact (ih hb.2 _).trans (by rw [State.bay_setBay, if_neg hb.1])

theorem State.bay_writeBays_of_mem {changes : List (Nat × Bay)} (hnodup : (changes.map Prod.fst).Nodup) {e : Nat × Bay}
    (he : e ∈ changes) (s : State) : (writeBays s changes).bay e.1 = e.2 := by
  induction changes generalizing s with
  | nil => cases he
  | cons a changes ih =>
    obtain ⟨hfresh, hrest⟩ := List.nodup_cons.mp hnodup
    rcases List.mem_cons.mp he with rfl | he
    · exact (State.bay_writeBays_of_not_mem hfresh _).trans (State.bay_setBay_self _ _ _)
    · exact ih hrest he _

section
variable {s : State} {changes : List (Nat × Bay)}

theorem State.bay_censusChange_of_not_mem {b : Nat} (hb : b ∉ changes.map Prod.fst) :
    (s.censusChange changes).bay b = s.bay b :=
  (State.bay_of_bays (s.censusChange_frame changes).2.1 b).trans (State.bay_writeBays_of_not_mem hb s)

theorem State.bay_censusChange_of_mem (hnodup : (changes.map Prod.fst).Nodup) {e : Nat × Bay} (he : e ∈ changes) :
    (s.censusChange changes).bay e.1 = e.2 :=
  (State.bay_of_bays (s.censusChange_frame changes).2.1 e.1).trans (State.bay_writeBays_of_mem hnodup he s)

end

/-- The bays of a row (R4). -/
theorem mem_rowBays {r b : Nat} : b ∈ rowBays r ↔ b / 16 = r := by
  simp only [rowBays, List.mem_map, List.mem_range]
  constructor
  · rintro ⟨i, hi, rfl⟩
    omega
  · rintro rfl
    exact ⟨b % 16, by omega, by omega⟩

/-- An injective function keeps the items of a list distinct. -/
theorem nodup_map {α β : Type} {f : α → β} (hf : ∀ a b, f a = f b → a = b) {l : List α} (h : l.Nodup) : (l.map f).Nodup :=
  List.Pairwise.map f (fun a b hne heq => hne (hf a b heq)) h

theorem rowBays_nodup (r : Nat) : (rowBays r).Nodup :=
  nodup_map (fun _ _ h => Nat.add_left_cancel h) List.nodup_range

/-! ## One bay -/

section
variable {s : State} {B L : Nat → Prop}

/-- A bay that is in service is at a number that exists. -/
theorem State.Legal.bay_place (h : s.Legal) {b : Nat} (hb : (s.bay b).cls ≠ .retired) : b < 2048 := by
  refine Classical.byContradiction fun hout => ?_
  exact hb (congrArg Bay.cls (h.bay_out (Nat.le_of_not_lt hout)))

/-- A bay in service written with its zone and class kept, not taken out of DARK. -/
theorem State.BayWritten.of_same (hs : s.Legal) {b : Nat} {x : Bay} (hb : (s.bay b).cls ≠ .retired) (hx : x.Legal)
    (zone : x.zone = (s.bay b).zone) (census : x.census ≠ .dark → (s.bay b).census ≠ .dark) : s.BayWritten b x :=
  ⟨hs.bay_place hb, hx, fun _ => .inr ⟨hb, zone.symm⟩, fun _ hdark => .inr ⟨hb, census hdark⟩⟩

theorem State.oneBay_keeps (hs : s.Legal) {b : Nat} {x : Bay} (h : s.BayWritten b x) :
    s.Keeps ⟨[], B, L⟩ ⟨[], B, L⟩ (s.censusChange [(b, x)]) :=
  State.censusChange_keeps B L hs (by simp) fun e he => by
    rw [List.mem_singleton.mp he]
    exact h

theorem State.endHold_keeps (hs : s.Legal) {b : Nat} (hb : (s.bay b).hold ≠ none) :
    s.Keeps ⟨[], B, L⟩ ⟨[], B, L⟩ (s.endHold b) := by
  obtain ⟨hzone, htimer, hruns, -, hretired⟩ := hs.bay b
  have hservice : (s.bay b).cls ≠ .retired := fun hr => hb (hretired hr).2.2
  exact State.oneBay_keeps hs (.of_same hs hservice ⟨hzone, htimer, hruns, fun _ h => (Option.not_mem_none _ h).elim,
    fun hr => absurd hr hservice⟩ rfl id)

/-- A hold may be placed on a bay that is in service and VACANT (R10, R11). -/
theorem State.holdAllowed_vacant {b e : Nat} (h : s.holdAllowed b e = true) :
    (s.bay b).cls ≠ .retired ∧ (s.bay b).census = .vacant := by
  simp only [State.holdAllowed, State.offered, Bay.offeredIn, Bool.or_eq_true, Bool.and_eq_true, decide_eq_true_eq] at h
  rcases h with ⟨⟨⟨⟨⟨hc, -⟩, hv⟩, -⟩, -⟩, -⟩ | ⟨⟨⟨⟨⟨-, hc⟩, -⟩, hv⟩, -⟩, -⟩
  · exact ⟨fun hr => Bool.noConfusion ((congrArg BayClass.offerable hr).symm.trans hc), hv⟩
  · exact ⟨fun hr => BayClass.noConfusion (hc.symm.trans hr), hv⟩

theorem siteParams_ticks {c : SiteParams} (h : siteLegal c) :
    c.settleTicks ≤ 1200 ∧ c.departTicks ≤ 1200 ∧ c.holdTicks ≤ 6000 := by
  have hc := h.1
  simp only [siteParamsInRange, Bool.and_eq_true, within_iff] at hc
  omega

theorem State.placeHold_keeps (hs : s.Legal) {b ticket e : Nat} {t : State} (ht : ticket ≤ 65535) (he : e ≤ 8)
    (h : s.placeHold b ticket e = some t) : s.Keeps ⟨[], B, L⟩ ⟨[], B, L⟩ t := by
  unfold State.placeHold at h
  split at h
  · rename_i hallowed
    obtain ⟨hservice, hvacant⟩ := State.holdAllowed_vacant hallowed
    obtain ⟨hzone, htimer, hruns, -, -⟩ := hs.bay b
    cases h
    refine State.oneBay_keeps hs (.of_same hs hservice ⟨hzone, htimer, hruns, fun h hh => ?_, fun hr => absurd hr hservice⟩
      rfl id)
    cases Option.mem_some.mp hh
    exact ⟨⟨ht, he, (siteParams_ticks hs.site).2.2⟩, .inl hvacant⟩
  · cases h

/-! ## A row -/

/-- Every bay in service of a row is DARK after the row has gone DARK, and no other bay is written (R8). -/
theorem State.bay_darkenRow (s : State) (r b : Nat) :
    (s.darkenRow r).bay b = if b / 16 = r ∧ (s.bay b).cls ≠ .retired ∧ (s.bay b).census ≠ .dark then (s.bay b).darkened
      else s.bay b := by
  let changed := (rowBays r).filter fun b => decide ((s.bay b).cls ≠ .retired) && decide ((s.bay b).census ≠ .dark)
  have hmem : b ∈ changed ↔ b / 16 = r ∧ (s.bay b).cls ≠ .retired ∧ (s.bay b).census ≠ .dark := by
    rw [List.mem_filter, mem_rowBays, Bool.and_eq_true, decide_eq_true_eq, decide_eq_true_eq]
  have hkeys : (changed.map fun b => (b, (s.bay b).darkened)).map Prod.fst = changed := by simp [Function.comp_def]
  show (s.censusChange (changed.map fun b => (b, (s.bay b).darkened))).bay b = _
  split
  · rename_i h
    exact State.bay_censusChange_of_mem (e := (b, (s.bay b).darkened)) (by rw [hkeys]; exact (rowBays_nodup r).filter _)
      (List.mem_map.mpr ⟨b, hmem.mpr h, rfl⟩)
  · rename_i h
    exact State.bay_censusChange_of_not_mem (by rw [hkeys]; exact fun hb => h (hmem.mp hb))

theorem Bay.darkened_legal {b : Bay} (h : b.Legal) (hb : b.cls ≠ .retired) : b.darkened.Legal := by
  obtain ⟨hzone, -, -, hhold, -⟩ := h
  exact ⟨hzone, Nat.zero_le _, .inr (.inr rfl), fun k hk => ⟨(hhold k hk).1, .inr rfl⟩, fun hr => absurd hr hb⟩

/-- A row gone DARK leaves none of its bays to settle (R8). -/
theorem State.darkenRow_keeps (hs : s.Legal) (r : Nat) :
    s.Keeps ⟨[], B, L⟩ ⟨[], fun b => B b ∧ b / 16 ≠ r, L⟩ (s.darkenRow r) := by
  have hkeeps : s.Keeps ⟨[], B, L⟩ ⟨[], B, L⟩ (s.darkenRow r) := by
    refine State.censusChange_keeps B L hs ?_ fun e he => ?_
    · rw [List.map_map]
      exact nodup_map (fun _ _ h => h) ((rowBays_nodup r).filter _)
    · obtain ⟨b, hb, rfl⟩ := List.mem_map.mp he
      simp only [List.mem_filter, Bool.and_eq_true, decide_eq_true_eq] at hb
      obtain ⟨-, hservice, hdark⟩ := hb
      exact .of_same hs hservice (Bay.darkened_legal (hs.bay b) hservice) rfl fun _ => hdark
  refine { hkeeps with dark := fun k b hb hcls hwatched hnot => ?_ }
  by_cases hr : b / 16 = r
  · rw [s.bay_darkenRow] at hcls ⊢
    split
    · rfl
    · rename_i h
      rw [if_neg h] at hcls
      refine Classical.byContradiction fun hdark => ?_
      exact h ⟨hr, hcls, hdark⟩
  · exact hkeeps.dark k b hb hcls hwatched fun hB => hnot ⟨hB, hr⟩

/-- The bays that a report moves stay within their ranges (R5, R13). -/
theorem Bay.reported_legal {b : Bay} (h : b.Legal) (hb : b.cls ≠ .retired) {c : SiteParams} (hc : siteLegal c) (p : Bool) :
    (b.reported c p).Legal ∧ (b.reported c p).zone = b.zone ∧ (b.reported c p).cls = b.cls := by
  obtain ⟨hsettle, hdepart, -⟩ := siteParams_ticks hc
  obtain ⟨zone, cls, closed, census, timer, hold⟩ := b
  obtain ⟨hzone, htimer, hruns, hhold, hretired⟩ := h
  have hinert : ∀ {P : Prop}, cls = .retired → P := fun hr => absurd hr hb
  have hnone : ∀ {P : Hold → Prop}, ∀ k ∈ (none : Option Hold), P k := fun k hk => (Option.not_mem_none k hk).elim
  have hstopped : ∀ {x : Census}, x = .vacant ∨ x = .parked ∨ x = .dark → x = .arriving ∨ x = .leaving ∨ timer = 0 →
      timer = 0 := fun hx h => by rcases hx with rfl | rfl | rfl <;> simpa using h
  cases census <;> cases p <;> refine ⟨?_, rfl, rfl⟩
  case vacant.false | arriving.true | parked.true | leaving.false => exact ⟨hzone, htimer, hruns, hhold, hretired⟩
  case vacant.true => exact ⟨hzone, hsettle, .inl rfl, hnone, hinert⟩
  case arriving.false | parked.false =>
    exact ⟨hzone, hdepart, .inr (.inl rfl), fun k hk => by simpa using (hhold k hk).2, hinert⟩
  case leaving.true => exact ⟨hzone, hsettle, .inl rfl, fun k hk => by simpa using (hhold k hk).2, hinert⟩
  case dark.true => exact ⟨hzone, htimer, .inr (.inr (hstopped (.inr (.inr rfl)) hruns)), hnone, hinert⟩
  case dark.false =>
    exact ⟨hzone, htimer, .inr (.inr (hstopped (.inr (.inr rfl)) hruns)), fun k hk => ⟨(hhold k hk).1, .inl rfl⟩, hinert⟩

/-- A report of a row whose bays are watched (R4, R5). -/
theorem State.censusReport_keeps (hs : s.Legal) {r n : Nat} (presence : BitVec 16)
    (watched : ∀ i, i < n → i < 16 ∧ s.Watched (16 * r + i)) :
    s.Keeps ⟨[], B, L⟩ ⟨[], B, L⟩ (s.censusReport r n presence) := by
  refine State.censusChange_keeps B L hs ?_ fun e he => ?_
  · rw [State.reportedChanges, List.map_map]
    exact nodup_map (fun _ _ h => Nat.add_left_cancel h) (List.nodup_range.filter _)
  · obtain ⟨i, hi, rfl⟩ := List.mem_map.mp he
    simp only [List.mem_filter, List.mem_range, Bool.and_eq_true, decide_eq_true_eq] at hi
    obtain ⟨hlt, hservice, -⟩ := hi
    obtain ⟨hlegal, hzone, -⟩ := Bay.reported_legal (hs.bay _) hservice hs.site (presence.getLsbD i)
    exact ⟨hs.bay_place hservice, hlegal, fun _ => .inr ⟨hservice, hzone.symm⟩, fun _ _ => .inl (watched i hlt).2⟩

end

end Sys2Proof.Machine
end

section
/-! SUPPORT. What every command keeps, part five: the changes of zone records that reports, timers and requests make. -/

namespace Sys2Proof.Machine

/-! ## Records changed by the ventilation unit -/

/-- A change that keeps the inputs and the names is quiet when it leaves a bare record bare. -/
theorem Zone.SameInputs.quiet {x y : Zone} (h : x.SameInputs y) (sound : x.Sound y) (runs : x.Runs y)
    (bare : x.Bare → y.Bare) : x.Quiet y :=
  ⟨sound, h.air.names runs.names, h.air.inUse, h.air.shed, h.tallies, bare⟩

section
variable {z : Zone} {i : Nat} {g : Stage} (hg : z.stages[i]? = some g)
include hg

/-- A zone with a stage is not bare. -/
theorem Zone.Bare.false_of_stage {P : Prop} (h : z.Bare) : P := by
  rw [h.stages] at hg
  cases hg

theorem Zone.faultStage_quiet (c : Cause) : z.Quiet (z.faultStage i c) :=
  (z.faultStage_inputs i c).quiet (Zone.faultStage_sound hg c) (z.faultStage_runs i c) (Zone.Bare.false_of_stage hg)

theorem Zone.silenceStage_quiet : z.Quiet (z.silenceStage i) :=
  (z.silenceStage_inputs i).quiet (Zone.silenceStage_sound hg) (z.silenceStage_runs i) (Zone.Bare.false_of_stage hg)

theorem Zone.fanReading_quiet (proof trip : Bool) : z.Quiet (z.fanReading i proof trip) :=
  (z.fanReading_inputs proof trip).quiet (Zone.fanReading_sound hg proof trip) (z.fanReading_runs i proof trip)
    (Zone.Bare.false_of_stage hg)

theorem Zone.resetStage_quiet (hs : g.status = .faulted) : z.Quiet (z.resetStage i) :=
  (z.resetStage_inputs i).quiet (Zone.resetStage_sound hg hs) (Zone.resetStage_runs ((Zone.statusAt_eq hg).trans hs))
    (Zone.Bare.false_of_stage hg)

theorem Zone.rundownEnd_quiet (hs : g.status = .stopping) : z.Quiet (z.rundownEnd i) :=
  (z.rundownEnd_inputs i).quiet (Zone.rundownEnd_sound hg hs) (Zone.rundownEnd_runs ((Zone.statusAt_eq hg).trans hs))
    (Zone.Bare.false_of_stage hg)

end

theorem Zone.enterIdle_quiet {z : Zone} (hs : z.seq = .dwell) : z.Quiet z.enterIdle :=
  z.enterIdle_inputs.quiet (Zone.enterIdle_sound hs) z.enterIdle_runs fun h => by
    rw [show z.seq = .idle from congrArg Zone.seq h] at hs
    cases hs

/-! ## Records changed by the fume unit -/

/-- A bare record has no slot to change (R28). -/
theorem Zone.Bare.withSlots_nil {z : Zone} (h : z.Bare) : (z.withSlots []).Bare := by
  unfold Zone.Bare at h
  rw [h]
  rfl

theorem Zone.Bare.gasReported {z : Zone} (h : z.Bare) (id : NodeId) (r0 : Nat) (v0 : Bool) (r1 : Nat) (v1 : Bool) :
    (z.gasReported id r0 v0 r1 v1).Bare := by
  unfold Zone.Bare at h
  rw [h]
  rfl

/-- A change of a zone's fume part: its names, its settings and its tallies are kept. -/
structure Zone.AirMoved (x y : Zone) : Prop where
  sound : x.Sound y
  names : x.SameNames y
  inUse : y.inUse = x.inUse
  tallies : y.tallies = x.tallies
  bare : x.Bare → y.Bare

theorem Zone.ageOut_moved (z : Zone) (i : Nat) : z.AirMoved (z.ageOut i) := by
  obtain ⟨hinUse, -, -, -, -, -, htallies⟩ := z.withSlots_settings (changeAt Slot.goStale z.slots i)
  refine ⟨z.ageOut_sound i, z.ageOut_names i, hinUse, htallies, fun h => ?_⟩
  have hslots : changeAt Slot.goStale z.slots i = [] := by rw [h.slots]; rfl
  rw [Zone.ageOut, hslots]
  exact h.withSlots_nil

theorem Zone.staleNode_moved (z : Zone) (id : NodeId) : z.AirMoved (z.staleNode id) := by
  obtain ⟨hinUse, -, -, -, -, -, htallies⟩ :=
    z.withSlots_settings (z.slots.map fun g => if g.node = id then g.goStale else g)
  refine ⟨z.staleNode_sound id, z.staleNode_names id, hinUse, htallies, fun h => ?_⟩
  have hslots : (z.slots.map fun g => if g.node = id then g.goStale else g) = [] := by rw [h.slots]; rfl
  rw [Zone.staleNode, hslots]
  exact h.withSlots_nil

theorem Zone.gasReported_moved (z : Zone) (id : NodeId) (r0 : Nat) (v0 : Bool) (r1 : Nat) (v1 : Bool) :
    z.AirMoved (z.gasReported id r0 v0 r1 v1) := by
  obtain ⟨-, hinUse, -, -⟩ := Zone.gasReported_settings id r0 v0 r1 v1 z
  refine ⟨z.gasReported_sound id r0 v0 r1 v1, z.gasReported_names id r0 v0 r1 v1, hinUse, ?_,
    fun h => h.gasReported id r0 v0 r1 v1⟩
  refine (z.handOn_tallies _).trans ?_
  rw [Zone.gasUpdate_eq]

/-! ## In a state -/

section
variable {s : State} {B L : Nat → Prop} (hs : s.Legal)
include hs

theorem State.putZone_keeps {z : Nat} (hz : z < 32) {x : Zone} (hx : (s.zone z).Quiet x) :
    s.Keeps ⟨[], B, L⟩ ⟨[], B, L⟩ (s.putZone z x) := by
  refine State.putZone_keeps_counted B L hs hz hx.sound
    (fun k => k.setZone hs hz (hx.sound.legal (hs.zone z)) hx.names)
    (fun k => k.setZone fun hfree => ⟨hx.inUse ▸ hfree, hx.bare⟩) (fun _ _ h => h) fun _ k => ?_
  rw [s.tallyOf_setZone hx.inUse hx.shed, hx.tallies]
  exact k List.not_mem_nil

theorem State.changeZone_keeps_moved {z : Nat} (hz : z < 32) {x : Zone} (hx : (s.zone z).AirMoved x) :
    s.Keeps ⟨[], B, L⟩ ⟨[], B, L⟩ (s.changeZone z x) :=
  State.changeZone_keeps B L hs hz hx.sound (fun k => k.setZone hs hz (hx.sound.legal (hs.zone z)) hx.names)
    (fun k => k.setZone fun hfree => ⟨hx.inUse ▸ hfree, hx.bare⟩) fun _ k => hx.tallies.trans k

/-- Every zone of a list is changed at the stage that names a node. -/
theorem State.stages_keep {f : Zone → Nat → Zone}
    (hf : ∀ (z : Zone) (i : Nat) (g : Stage), z.stages[i]? = some g → z.Quiet (f z i)) (id : NodeId) {zs : List Nat}
    (hzs : ∀ z ∈ zs, z < 32) :
    s.Keeps ⟨[], B, L⟩ ⟨[], B, L⟩ (zs.foldl (fun s z =>
      match (s.zone z).stagePlace id with
      | some i => s.putZone z (f (s.zone z) i)
      | none => s) s) := by
  refine .foldl zs (fun z hz t ht => ?_) hs
  split
  · rename_i i hplace
    obtain ⟨⟨g, hg, -⟩, -⟩ := (firstPlace_eq_some (l := (t.zone z).stages)).mp hplace
    exact State.putZone_keeps ht (hzs z hz) (hf _ _ g hg)
  · exact .refl ht _

theorem State.silenceFanNode_keeps (id : NodeId) : s.Keeps ⟨[], B, L⟩ ⟨[], B, L⟩ (s.silenceFanNode id) :=
  State.stages_keep hs (fun _ _ _ hg => Zone.silenceStage_quiet hg) id fun z hz => ((s.mem_zonesWhere _ z).mp hz).1

theorem State.fanReport_keeps (id : NodeId) (proof trip : Bool) :
    s.Keeps ⟨[], B, L⟩ ⟨[], B, L⟩ (s.fanReport id proof trip) :=
  State.stages_keep hs (fun _ _ _ hg => Zone.fanReading_quiet hg proof trip) id
    fun z hz => ((s.mem_zonesWhere _ z).mp hz).1

theorem State.staleGasNode_keeps (id : NodeId) : s.Keeps ⟨[], B, L⟩ ⟨[], B, L⟩ (s.staleGasNode id) :=
  .foldl _ (fun z hz _ ht => State.changeZone_keeps_moved ht ((s.mem_zonesWhere _ z).mp hz).1 (Zone.staleNode_moved _ id)) hs

omit hs in
/-- Effects that the spec leaves without order, taken in some order (log entry 10). -/
theorem State.Keeps.inAnyOrder {E : Unsettled} {f : State → Nat → State} {items : List Nat}
    (hf : ∀ a ∈ items, ∀ s : State, s.Legal → s.Keeps E E (f s a)) (hs : s.Legal) : s.Keeps E E (s.inAnyOrder f items) := by
  obtain ⟨l, n, hperm, heq⟩ := s.inAnyOrder_eq f items
  have hchosen : s.Keeps E E { s with choices := n } :=
    .aside hs (hs.setLink s.phase s.ticks s.ignoring s.buffer s.out s.miso n) rfl rfl rfl rfl rfl E
  rw [heq]
  exact hchosen.trans fun ht => .foldl l (fun a ha => hf a (hperm.mem_iff.mp ha)) ht

theorem State.gasReport_keeps (id : NodeId) (r0 : Nat) (v0 : Bool) (r1 : Nat) (v1 : Bool) :
    s.Keeps ⟨[], B, L⟩ ⟨[], B, L⟩ (s.gasReport id r0 v0 r1 v1) :=
  .inAnyOrder (fun z hz _ ht => State.changeZone_keeps_moved ht ((s.mem_zonesWhere _ z).mp hz).1
    (Zone.gasReported_moved _ id r0 v0 r1 v1)) hs

end

end Sys2Proof.Machine
end

section
/-! SUPPORT. What every command keeps, part six: changes of node records, silence, bars and the ends of a visit. -/

namespace Sys2Proof.Machine

/-! ## A table record written twice -/

theorem Table.erase_insert {α : Type} (t : Table α) (k : Nat) (a : α) :
    Table.erase (Table.insert k a t) k = Table.erase t k :=
  Table.filter_insert (fun e => decide (e.1 ≠ k)) k a (by simp) t

theorem Table.set_set {α : Type} [DecidableEq α] (d : α) (t : Table α) (k : Nat) (a b : α) :
    Table.set d (Table.set d t k a) k b = Table.set d t k b := by
  have hidem : Table.erase (Table.erase t k) k = Table.erase t k := by simp [Table.erase, List.filter_filter]
  have herase : Table.erase (Table.set d t k a) k = Table.erase t k := by
    unfold Table.set
    split
    · exact hidem
    · rw [Table.erase_insert, hidem]
  unfold Table.set at herase ⊢
  rw [herase]

theorem State.setNode_setNode (s : State) (id : NodeId) (m n : Node) : (s.setNode id m).setNode id n = s.setNode id n :=
  congrArg (fun t => ({ s with nodes := t } : State)) (Table.set_set Node.powerOn s.nodes id.key m n)

/-! ## One node record -/

/-- Whether a node record reports a bay: it is of kind ROW for the bay's row (R4). -/
def Node.rowOf (n : Node) (b : Nat) : Prop := ∃ r k g, n.service = .row r k g ∧ b / 16 = r

section
variable {s : State} {B L : Nat → Prop} (hs : s.Legal)
include hs

/-- A node record written with its binding kept: nothing but what it leaves unwatched is to be settled (R8). -/
theorem State.setNode_keeps_unwatched {id : NodeId} {n : Node} (hk : id.key < 256 ∧ id.key % 64 ≠ 0) (hn : n.Legal)
    (hb : (s.node id).SameBinding n) {Q : Nat → Prop}
    (hQ : ∀ b, ¬ Q b → ¬ B b ∧ ((s.node id).rowOf b → (s.node id).state = .live → n.state = .live)) :
    s.Keeps ⟨[], B, L⟩ ⟨[], Q, L⟩ (s.setNode id n) := by
  have ht := hs.setNode hk hn
  have hquiet : s.Quiet (s.setNode id n) := by
    refine ⟨rfl, fun _ _ => .refl _, fun i => ?_, fun _ => .refl _, fun _ => Iff.rfl, fun _ v hv _ => .inr hv⟩
    rw [State.node_setNode]
    split
    · rename_i hk
      exact node_of_key hk ▸ hb
    · exact .refl _
  refine hquiet.keeps_unwatched hs ht (E := ⟨[], B, L⟩) fun b hnot => ?_
  obtain ⟨hB, hlive⟩ := hQ b hnot
  refine ⟨hB, fun ⟨i, r, k, g, hi, hstate, hscan, hservice, hrow, hlt⟩ => ?_⟩
  by_cases hk : i.key = id.key
  · rw [node_of_key hk] at hstate hservice
    have hnode : (s.setNode id n).node i = n := by rw [State.node_setNode, if_pos hk]
    have hbinding : n.service.rowBinding = some (r, k) := by rw [hb.row, hservice]; rfl
    obtain ⟨g', hg'⟩ : ∃ g', n.service = .row r k g' := by
      cases hv : n.service <;> rw [hv] at hbinding <;> cases hbinding
      exact ⟨_, rfl⟩
    exact ⟨i, r, k, g', hi, by rw [hnode]; exact hlive ⟨r, k, g, hservice, hrow⟩ hstate, hscan, by rw [hnode, hg'], hrow, hlt⟩
  · have hnode : (s.setNode id n).node i = s.node i := by rw [State.node_setNode, if_neg hk]
    exact ⟨i, r, k, g, hi, by rw [hnode]; exact hstate, hscan, by rw [hnode]; exact hservice, hrow, hlt⟩

/-- A node record written with its binding kept, LIVE where it was LIVE. -/
theorem State.setNode_keeps {id : NodeId} {n : Node} (hon : (s.node id).state ≠ .off) (hn : n.Legal)
    (hb : (s.node id).SameBinding n) (hlive : (s.node id).state = .live → n.state = .live) :
    s.Keeps ⟨[], B, L⟩ ⟨[], B, L⟩ (s.setNode id n) :=
  State.setNode_keeps_unwatched hs (hs.key_of_on hon) hn hb fun _ hB => ⟨hB, fun _ => hlive⟩

omit hs in
/-- More may be left to settle than need be. -/
theorem State.Keeps.of_settled {E : Unsettled} {p q : Nat → Prop} {t : State} {zs : List Nat}
    (h : s.Keeps E ⟨zs, p, L⟩ t) (hpq : ∀ b, p b → q b) : s.Keeps E ⟨zs, q, L⟩ t :=
  { h with dark := fun k b hb hcls hwatched hq => h.dark k b hb hcls hwatched fun hp => hq (hpq b hp) }

/-! ## A node out of use (R56, R72) -/

/-- What is left to settle when a node is taken out of use: the bays that it reported. -/
def Node.leaves (n : Node) (B : Nat → Prop) (b : Nat) : Prop := B b ∨ n.rowOf b

omit hs in
theorem Node.Legal.droppedTo {n : Node} (h : n.Legal) {x : NodeState} (hx : x = .silent ∨ x = .barred ∧ n.service.barrable = true)
    (hanswer : n.service.answering = false) (hon : n.state ≠ .off) : ({ n with state := x } : Node).Legal := by
  obtain ⟨-, hservice, hmisses, -, -, hlegal, -⟩ := h
  have hne : x ≠ .off ∧ x ≠ .live := by rcases hx with rfl | ⟨rfl, -⟩ <;> exact ⟨by decide, by decide⟩
  refine ⟨fun hoff => absurd hoff hne.1, fun _ => hservice hon, hmisses, fun hl => absurd hl hne.2, fun hb => ?_, hlegal,
    fun ha => ?_⟩
  · rcases hx with rfl | ⟨-, hbarrable⟩
    · cases hb
    · exact hbarrable
  · exact Bool.noConfusion (hanswer.symm.trans ha)

/-- The record of a node of another kind than ENTRY taken out of use. -/
theorem State.drop_keeps {id : NodeId} {x : NodeState}
    (hx : x = .silent ∨ x = .barred ∧ (s.node id).service.barrable = true) (hon : (s.node id).state ≠ .off)
    (hanswer : (s.node id).service.answering = false) :
    s.Keeps ⟨[], B, L⟩ ⟨[], (s.node id).leaves B, L⟩ (s.setNode id { s.node id with state := x }) :=
  State.setNode_keeps_unwatched hs (hs.key_of_on hon) ((hs.node id).droppedTo hx hanswer hon) ⟨rfl, rfl, rfl⟩ fun _ hnot =>
    ⟨fun hB => hnot (.inl hB), fun hrow => absurd (.inr hrow) hnot⟩

omit hs in
/-- An ENTRY record taken out of use: its open answer is abandoned (R138). -/
def Node.abandoned (n : Node) (x : NodeState) (e : Nat) (a : Answer) : Node :=
  { n with service := .entry e .ready, state := x, outputPending := n.outputPending || decide (a ≠ .ready) }

omit hs in
theorem State.abandonAnswer_eq {id : NodeId} {e : Nat} {a : Answer} (h : (s.node id).service = .entry e a) (x : NodeState) :
    (s.setNode id { s.node id with state := x }).abandonAnswer id = s.setNode id ((s.node id).abandoned x e a) := by
  have hservice : ((s.setNode id { s.node id with state := x }).node id).service = .entry e a := by
    rw [State.node_setNode_self]
    exact h
  unfold State.abandonAnswer
  rw [hservice]
  by_cases ha : a = .ready
  · simp only [ha, if_pos]
    refine congrArg (s.setNode id) ?_
    simp [Node.abandoned, h, ha]
  · simp only [if_neg ha]
    rw [State.setNode_setNode, State.node_setNode_self]
    exact congrArg (s.setNode id) (by simp [Node.abandoned, ha])

/-- An ENTRY node taken out of use, with its answer abandoned. -/
theorem State.dropEntry_keeps {id : NodeId} {x : NodeState} {e : Nat} {a : Answer} (h : (s.node id).service = .entry e a)
    (hx : x = .silent ∨ x = .barred) :
    s.Keeps ⟨[], B, L⟩ ⟨[], B, L⟩ ((s.setNode id { s.node id with state := x }).abandonAnswer id) := by
  have hon : (s.node id).state ≠ .off := hs.on_of_kind (k := .entry) (by rw [h]; rfl)
  obtain ⟨-, -, hmisses, -, -, hlegal, -⟩ := hs.node id
  have he : e < 8 := by
    rw [h] at hlegal
    exact of_decide_eq_true (Bool.and_eq_true_iff.mp hlegal).1
  have hne : x ≠ .off ∧ x ≠ .live := by rcases hx with rfl | rfl <;> exact ⟨by decide, by decide⟩
  rw [State.abandonAnswer_eq h]
  have hrecord : ((s.node id).abandoned x e a).Legal := by
    refine ⟨fun hoff => absurd hoff hne.1, fun _ => Service.noConfusion, hmisses, fun hl => absurd hl hne.2, fun _ => rfl, ?_,
      fun ha => Bool.noConfusion ha⟩
    simp [Node.abandoned, Service.legal, Answer.legal, he]
  exact State.setNode_keeps_unwatched hs (hs.key_of_on hon) hrecord ⟨by rw [h]; rfl, by rw [h]; rfl, by rw [h]; rfl⟩
    fun b hB => ⟨hB, fun ⟨r, k, g, hr, _⟩ => by rw [h] at hr; cases hr⟩

end

end Sys2Proof.Machine
end

section
/-! SUPPORT. What every command keeps, part seven: silence, the bar and a miss. -/

namespace Sys2Proof.Machine

/-! ## Silence and the bar, by the kind of the node (R56, R72) -/

theorem State.raiseNodeEvent_nodes (s : State) (id : NodeId) (k : EventKind) : (s.raiseNodeEvent id k).nodes = s.nodes := by
  rw [State.raiseNodeEvent_eq]

theorem State.raiseNodeEvent_node (s : State) (id : NodeId) (k : EventKind) (j : NodeId) :
    (s.raiseNodeEvent id k).node j = s.node j := by
  rw [State.node, State.node, State.raiseNodeEvent_nodes]

section
variable (s : State) {id : NodeId}

/-- The record of a node taken out of use, with its event. -/
def State.silenced (s : State) (id : NodeId) : State :=
  (s.setNode id { s.node id with state := .silent }).raiseNodeEvent id .nodeSilent

theorem State.silenced_service (s : State) (id : NodeId) : ((s.silenced id).node id).service = (s.node id).service := by
  rw [State.silenced, State.raiseNodeEvent_node, State.node_setNode_self]

theorem State.barEffects_row {r n : Nat} {g : LightSet} (h : (s.node id).service = .row r n g) :
    s.barEffects id = s.darkenRow r := by
  unfold State.barEffects
  rw [h]

theorem State.barEffects_gas (h : (s.node id).service = .gas) : s.barEffects id = s.staleGasNode id := by
  unfold State.barEffects
  rw [h]

theorem State.barEffects_entry {e : Nat} {a : Answer} (h : (s.node id).service = .entry e a) :
    s.barEffects id = s.abandonAnswer id := by
  unfold State.barEffects
  rw [h]

theorem State.barEffects_sign (h : (s.node id).service = .sign) : s.barEffects id = s := by
  unfold State.barEffects
  rw [h]

theorem State.goSilent_of_raised {u : State}
    (hraise : (s.setNode id { s.node id with state := .silent }).raiseSilence id = u) :
    s.goSilent id = if (s.node id).service = .fan then u.silenceFanNode id else u.barEffects id := by
  rw [← hraise]
  rfl

theorem State.raiseSilence_eq (h : (s.node id).service.kind = some .row ∨ (s.node id).service.kind = some .gas
    ∨ (s.node id).service.kind = some .fan) :
    (s.setNode id { s.node id with state := .silent }).raiseSilence id = s.silenced id := by
  unfold State.raiseSilence
  rw [State.node_setNode_self]
  cases hv : (s.node id).service
  case row | gas | fan => rfl
  case none | sign | entry =>
    rw [hv] at h
    simp [Service.kind] at h

theorem State.goSilent_row {r n : Nat} {g : LightSet} (h : (s.node id).service = .row r n g) :
    s.goSilent id = (s.silenced id).darkenRow r := by
  rw [s.goSilent_of_raised (s.raiseSilence_eq (.inl (by rw [h]; rfl))), h, if_neg Service.noConfusion]
  exact State.barEffects_row _ ((s.silenced_service id).trans h)

theorem State.goSilent_gas (h : (s.node id).service = .gas) : s.goSilent id = (s.silenced id).staleGasNode id := by
  rw [s.goSilent_of_raised (s.raiseSilence_eq (.inr (.inl (by rw [h]; rfl)))), h, if_neg Service.noConfusion]
  exact State.barEffects_gas _ ((s.silenced_service id).trans h)

theorem State.goSilent_fan (h : (s.node id).service = .fan) : s.goSilent id = (s.silenced id).silenceFanNode id := by
  rw [s.goSilent_of_raised (s.raiseSilence_eq (.inr (.inr (by rw [h]; rfl)))), if_pos h]

theorem State.goSilent_sign (h : (s.node id).service = .sign) :
    s.goSilent id = (s.setNode id { s.node id with state := .silent }).raiseSite .signSilent := by
  have hservice : ((s.setNode id { s.node id with state := .silent }).node id).service = .sign := by
    rw [State.node_setNode_self]
    exact h
  have hraise : (s.setNode id { s.node id with state := .silent }).raiseSilence id
      = (s.setNode id { s.node id with state := .silent }).raiseSite .signSilent := by
    unfold State.raiseSilence
    rw [hservice]
  rw [s.goSilent_of_raised hraise, h, if_neg Service.noConfusion]
  exact State.barEffects_sign _ hservice

theorem State.abandonAnswer_raiseSite (k : EventKind) : (s.raiseSite k).abandonAnswer id = (s.abandonAnswer id).raiseSite k := by
  unfold State.abandonAnswer
  rw [State.raiseSite_node]
  split
  · split <;> rfl
  all_goals rfl

theorem State.goSilent_entry {e : Nat} {a : Answer} (h : (s.node id).service = .entry e a) :
    s.goSilent id = (s.setNode id ((s.node id).abandoned .silent e a)).raiseSite .entrySilent := by
  have hservice : ((s.setNode id { s.node id with state := .silent }).node id).service = .entry e a := by
    rw [State.node_setNode_self]
    exact h
  have hraise : (s.setNode id { s.node id with state := .silent }).raiseSilence id
      = (s.setNode id { s.node id with state := .silent }).raiseSite .entrySilent := by
    unfold State.raiseSilence
    rw [hservice]
  rw [s.goSilent_of_raised hraise, ← State.abandonAnswer_eq h, ← State.abandonAnswer_raiseSite, h,
    if_neg Service.noConfusion]
  exact State.barEffects_entry _ hservice

end

/-! ## What silence and the bar keep -/

section
variable {s : State} {B L : Nat → Prop} (hs : s.Legal)
include hs

/-- The silence of a node whose record has been written with its binding kept: its own bays are no longer left to settle. -/
theorem State.goSilent_keeps_written {id : NodeId} {m : Node} {u : State} (hlive : (s.node id).state = .live)
    (hm : m.service = (s.node id).service ∧ m.misses ≤ 5) (hu : u.node id = m)
    (hwrite : ∀ n, u.setNode id n = s.setNode id n) :
    s.Keeps ⟨[], B, L⟩ ⟨[], fun b => B b ∧ ¬ (s.node id).rowOf b, L⟩ (u.goSilent id) := by
  obtain ⟨hservice, hmisses⟩ := hm
  have hon : (s.node id).state ≠ .off := by simp [hlive]
  obtain ⟨-, hsome, -, -, -, hlegal, -⟩ := hs.node id
  have hrecord : m.service.answering = false → ({ m with state := .silent } : Node).Legal := fun ha => by
    refine ⟨NodeState.noConfusion, fun _ => ?_, hmisses, NodeState.noConfusion, NodeState.noConfusion, ?_, fun hans => ?_⟩
    · rw [hservice]
      exact hsome hon
    · rw [hservice]
      exact hlegal
    · exact Bool.noConfusion (ha.symm.trans hans)
  have hdrop : m.service.answering = false →
      s.Keeps ⟨[], B, L⟩ ⟨[], (s.node id).leaves B, L⟩ (u.setNode id { u.node id with state := .silent }) := fun ha => by
    rw [hu, hwrite]
    exact State.setNode_keeps_unwatched hs (hs.key_of_on hon) (hrecord ha) ⟨by rw [hservice], by rw [hservice], by rw [hservice]⟩
      fun _ hnot => ⟨fun hB => hnot (.inl hB), fun hrow => absurd (.inr hrow) hnot⟩
  have hsilenced : m.service.answering = false →
      s.Keeps ⟨[], B, L⟩ ⟨[], (s.node id).leaves B, L⟩ (u.silenced id) := fun ha =>
    (hdrop ha).trans fun ht => State.raiseNodeEvent_keeps ht _ id .nodeSilent
  have hleaves : (∀ b, ¬ (s.node id).rowOf b) → ∀ b, (s.node id).leaves B b → B b ∧ ¬ (s.node id).rowOf b :=
    fun hno b h => ⟨h.resolve_right (hno b), hno b⟩
  have hus : (u.node id).service = (s.node id).service := hu ▸ hservice
  cases hkind : (s.node id).service with
  | none => exact absurd hkind (hsome hon)
  | row r n g =>
    rw [State.goSilent_row u (hus.trans hkind)]
    refine .of_settled ((hsilenced (by rw [hservice, hkind]; rfl)).trans fun ht => State.darkenRow_keeps ht r)
      fun b hb => ⟨hb.1.resolve_right fun h => ?_, fun h => ?_⟩
    all_goals
      obtain ⟨r', n', g', hr, hrow⟩ := h
      rw [hkind] at hr
      cases hr
      exact hb.2 hrow
  | gas =>
    have hno : ∀ b, ¬ (s.node id).rowOf b := fun b ⟨_, _, _, hr, _⟩ => by rw [hkind] at hr; cases hr
    rw [State.goSilent_gas u (hus.trans hkind)]
    exact .of_settled ((hsilenced (by rw [hservice, hkind]; rfl)).trans fun ht => State.staleGasNode_keeps ht id) (hleaves hno)
  | fan =>
    have hno : ∀ b, ¬ (s.node id).rowOf b := fun b ⟨_, _, _, hr, _⟩ => by rw [hkind] at hr; cases hr
    rw [State.goSilent_fan u (hus.trans hkind)]
    exact .of_settled ((hsilenced (by rw [hservice, hkind]; rfl)).trans fun ht => State.silenceFanNode_keeps ht id)
      (hleaves hno)
  | sign =>
    have hno : ∀ b, ¬ (s.node id).rowOf b := fun b ⟨_, _, _, hr, _⟩ => by rw [hkind] at hr; cases hr
    rw [State.goSilent_sign u (hus.trans hkind)]
    exact .of_settled ((hdrop (by rw [hservice, hkind]; rfl)).trans fun ht => State.raiseSite_keeps ht _ .signSilent)
      (hleaves hno)
  | entry e a =>
    have hno : ∀ b, ¬ (s.node id).rowOf b := fun b ⟨_, _, _, hr, _⟩ => by rw [hkind] at hr; cases hr
    have hentry : (m.abandoned .silent e a).Legal := by
      rw [hkind] at hlegal
      have he : e < 8 := of_decide_eq_true (Bool.and_eq_true_iff.mp hlegal).1
      refine ⟨NodeState.noConfusion, fun _ => Service.noConfusion, hmisses, NodeState.noConfusion, NodeState.noConfusion, ?_,
        Bool.noConfusion⟩
      simp [Node.abandoned, Service.legal, Answer.legal, he]
    rw [State.goSilent_entry u (hus.trans hkind), hu, hwrite]
    refine .of_settled ((State.setNode_keeps_unwatched hs (hs.key_of_on hon) (B := B) (Q := B) hentry
      ⟨by rw [hkind]; rfl, by rw [hkind]; rfl, by rw [hkind]; rfl⟩ fun b hB => ⟨hB, fun h => absurd h (hno b)⟩).trans
      fun ht => State.raiseSite_keeps ht _ .entrySilent) fun b hB => ⟨hB, hno b⟩

theorem State.goSilent_keeps {id : NodeId} (hlive : (s.node id).state = .live) :
    s.Keeps ⟨[], B, L⟩ ⟨[], fun b => B b ∧ ¬ (s.node id).rowOf b, L⟩ (s.goSilent id) :=
  State.goSilent_keeps_written hs hlive ⟨rfl, (hs.node id).2.2.1⟩ rfl fun _ => rfl

/-- The bar and its effects (R56). -/
theorem State.bar_keeps {id : NodeId} (hon : (s.node id).state ≠ .off) (hb : (s.node id).service.barrable = true) :
    s.Keeps ⟨[], B, L⟩ ⟨[], B, L⟩ ((s.setNode id { s.node id with state := .barred }).barEffects id) := by
  have hdrop := State.drop_keeps (B := B) (L := L) hs (id := id) (.inr ⟨rfl, hb⟩) hon
  unfold State.barEffects
  rw [State.node_setNode_self]
  cases hkind : (s.node id).service with
  | row r n g =>
    refine .of_settled ((hdrop (by rw [hkind]; rfl)).trans fun ht => State.darkenRow_keeps ht r)
      fun b hb => hb.1.resolve_right fun ⟨r', n', g', hr, hrow⟩ => ?_
    rw [hkind] at hr
    cases hr
    exact hb.2 hrow
  | gas =>
    refine .of_settled ((hdrop (by rw [hkind]; rfl)).trans fun ht => State.staleGasNode_keeps ht id)
      fun b hb => hb.resolve_right fun ⟨_, _, _, hr, _⟩ => ?_
    rw [hkind] at hr
    cases hr
  | entry e a => exact State.dropEntry_keeps hs hkind (.inr rfl)
  | none | fan | sign =>
    rw [hkind] at hb
    cases hb

/-! ## A miss (R71, R72) -/

theorem State.miss_keeps (id : NodeId) (command : Bool) : s.Keeps ⟨[], B, L⟩ ⟨[], B, L⟩ (s.miss id command) := by
  unfold State.miss
  dsimp only
  split
  · exact .refl hs _
  · rename_i hon
    have hmisses : ((s.node id).missed command).misses ≤ 5 := Nat.min_le_left _ _
    split
    · rename_i h
      refine .of_settled (State.goSilent_keeps_written (m := (s.node id).missed command) hs h.1 ⟨rfl, hmisses⟩
        (State.node_setNode_self _ _ _)
        fun n => State.setNode_setNode _ _ _ _) fun b hb => hb.1
    · rename_i h
      obtain ⟨-, hservice, -, -, hbarred, hlegal, hanswer⟩ := hs.node id
      refine State.setNode_keeps hs hon ⟨fun hoff => absurd hoff hon, hservice, hmisses, fun hlive => ?_, hbarred, hlegal,
        hanswer⟩ ⟨rfl, rfl, rfl⟩ fun hlive => hlive
      exact Nat.lt_of_le_of_ne hmisses fun heq => h ⟨hlive, heq⟩

end

end Sys2Proof.Machine
end

section
/-! SUPPORT. What every command keeps, part eight: line records, and the replies and reports of the field nodes. -/

namespace Sys2Proof.Machine

section
variable {s : State} {B L : Nat → Prop} (hs : s.Legal)
include hs

/-! ## Line records -/

theorem State.setLine_keeps_unwatched {l : Nat} {x : Line} (hl : l < 4) (hx : x.Legal)
    (idle : x.state = .idle ↔ (s.line l).state = .idle)
    (visits : ∀ v ∈ x.visit, v.retired = false → (s.node ⟨l, v.address⟩).state ≠ .off ∨ v ∈ (s.line l).visit)
    {Q : Nat → Prop} (watched : ∀ b, ¬ Q b → ¬ B b ∧ (s.Watched b → (s.setLine l x).Watched b)) :
    s.Keeps ⟨[], B, L⟩ ⟨[], Q, L⟩ (s.setLine l x) := by
  have hquiet : s.Quiet (s.setLine l x) := by
    refine ⟨rfl, fun _ _ => .refl _, fun _ => .refl _, fun _ => .refl _, fun i => ?_, fun i v hv hcurrent => ?_⟩
    · rw [State.line_setLine]
      split
      · rename_i heq
        exact heq ▸ idle
      · rfl
    · rw [State.line_setLine] at hv
      split at hv
      · rename_i heq
        exact heq ▸ visits v hv hcurrent
      · exact .inr hv
  exact hquiet.keeps_unwatched (E := ⟨[], B, L⟩) hs (hs.setLine hl hx) watched

theorem State.setLine_keeps {l : Nat} {x : Line} (hl : l < 4) (hx : x.Legal)
    (idle : x.state = .idle ↔ (s.line l).state = .idle) (scanning : (s.line l).state = .scanning → x.state = .scanning)
    (visits : ∀ v ∈ x.visit, v.retired = false → (s.node ⟨l, v.address⟩).state ≠ .off ∨ v ∈ (s.line l).visit) :
    s.Keeps ⟨[], B, L⟩ ⟨[], B, L⟩ (s.setLine l x) :=
  State.setLine_keeps_unwatched hs hl hx idle visits fun _ hB => ⟨hB, fun hw => hw.of_live (fun _ h => h) (fun _ => rfl)
    fun i hi => by
      rw [State.line_setLine]
      split
      · rename_i heq
        exact scanning (heq ▸ hi)
      · exact hi⟩

/-- A line that is not at its power-on value exists (R63). -/
theorem State.Legal.line_place {l : Nat} (h : s.line l ≠ Line.powerOn) : l < 4 := by
  refine Classical.byContradiction fun hout => ?_
  exact h (hs.line_out (Nat.le_of_not_lt hout))

omit hs in
theorem Line.awaiting_eq_some {x : Line} {v : Visit} (h : x.awaiting = some v) :
    x.state = .scanning ∧ x.de = false ∧ x.visit = some v := by
  unfold Line.awaiting at h
  split at h
  · rename_i hstate
    exact ⟨hstate.1, hstate.2, h⟩
  · cases h

theorem State.Legal.awaiting_place {l : Nat} {v : Visit} (h : (s.line l).awaiting = some v) :
    NodeId.Exists ⟨l, v.address⟩ := by
  obtain ⟨hscan, -, hvisit⟩ := Line.awaiting_eq_some h
  have hl : l < 4 := hs.line_place fun heq => by
    rw [heq] at hscan
    cases hscan
  obtain ⟨-, -, -, hvisits, -⟩ := hs.line l
  exact ⟨hl, hvisits v hvisit⟩

theorem State.endVisit_keeps {l : Nat} {v : Visit} (h : (s.line l).awaiting = some v) :
    s.Keeps ⟨[], B, L⟩ ⟨[], B, L⟩ (s.endVisit l) := by
  obtain ⟨hscan, hde, -⟩ := Line.awaiting_eq_some h
  obtain ⟨h1, h2, h3, -, -, h6, -, h8⟩ := hs.line l
  refine State.setLine_keeps hs (hs.awaiting_place h).1 ⟨h1, h2, h3, fun _ hv => ?_, fun hd => ?_, h6, .inl hscan, h8⟩ Iff.rfl
    (fun h => h) fun _ hv => ?_
  · exact (Option.not_mem_none _ hv).elim
  · exact Bool.noConfusion (hde.symm.trans hd)
  · exact (Option.not_mem_none _ hv).elim

/-- A visit ends with an effect that keeps everything (R71, R73). -/
theorem State.concludeVisit_keeps {l : Nat} {effect : State → Visit → State}
    (heffect : ∀ (t : State) (v : Visit), t.Legal → NodeId.Exists ⟨l, v.address⟩ → (t.line l).state = .scanning →
      t.Keeps ⟨[], B, L⟩ ⟨[], B, L⟩ (effect t v)) :
    s.Keeps ⟨[], B, L⟩ ⟨[], B, L⟩ (s.concludeVisit l effect) := by
  rcases s.concludeVisit_cases l effect with ⟨-, heq⟩ | ⟨v, hv, ⟨-, heq⟩ | ⟨-, heq⟩⟩
  · rw [heq]
    exact .refl hs _
  · rw [heq]
    exact State.endVisit_keeps hs hv
  · rw [heq]
    refine (State.endVisit_keeps hs hv).trans fun ht => heffect _ v ht (hs.awaiting_place hv) ?_
    rw [State.endVisit, State.line_setLine_self]
    exact (Line.awaiting_eq_some hv).1

/-! ## A reply taken (R73) -/

theorem State.answeredVisit_keeps {id : NodeId} (hon : (s.node id).state ≠ .off) :
    s.Keeps ⟨[], B, L⟩ ⟨[], B, L⟩ (s.answeredVisit id) := by
  have hanswered : s.Keeps ⟨[], B, L⟩ ⟨[], B, L⟩ (s.setNode id (s.node id).answered) := by
    obtain ⟨-, hservice, -, -, hbarred, hlegal, hanswer⟩ := hs.node id
    refine State.setNode_keeps hs hon ?_ ⟨rfl, rfl, rfl⟩ fun hlive => ?_
    · unfold Node.answered
      by_cases hsilent : (s.node id).state = .silent
      · simp only [if_pos hsilent]
        exact ⟨NodeState.noConfusion, fun _ => hservice hon, Nat.zero_le _, fun _ => Nat.succ_pos _, NodeState.noConfusion,
          hlegal, fun _ => rfl⟩
      · simp only [if_neg hsilent]
        exact ⟨fun hoff => absurd hoff hon, hservice, Nat.zero_le _, fun _ => Nat.succ_pos _, hbarred, hlegal, hanswer⟩
    · simp [Node.answered, hlive]
  rw [State.answeredVisit_eq]
  split
  · exact hanswered.trans fun ht => State.raiseNodeEvent_keeps ht _ id .nodeBack
  · exact hanswered

/-! ## Reports (R85) -/

omit hs in
theorem Service.withAisleTimer_same (v : Service) (t : Option Nat) : (v.withAisleTimer t).kind = v.kind
    ∧ (v.withAisleTimer t).rowBinding = v.rowBinding ∧ (v.withAisleTimer t).answer = v.answer
    ∧ (v.withAisleTimer t).legal = v.legal ∧ (v.withAisleTimer t).barrable = v.barrable
    ∧ (v.withAisleTimer t).answering = v.answering := by
  cases v <;> exact ⟨rfl, rfl, rfl, rfl, rfl, rfl⟩

omit hs in
theorem Service.kind_eq_none {v : Service} : v.kind = Option.none ↔ v = .none := by
  cases v <;> simp [Service.kind]

omit hs in
/-- The aisle timer set and the light set derived (R164): a change of light sets only. -/
theorem State.setAisleTimer_handOver (s : State) (id : NodeId) (t : Option Nat) : s.HandOver (s.setAisleTimer id t) := by
  obtain ⟨hkind, hrow, hanswer, -⟩ := (s.node id).service.withAisleTimer_same t
  exact (s.setNode_handOver id { s.node id with service := (s.node id).service.withAisleTimer t }
    ⟨rfl, rfl, rfl, rfl, hkind, hrow, hanswer⟩).trans (State.recomputeLights_handOver _ _)

theorem State.setAisleTimer_keeps {id : NodeId} (hon : (s.node id).state ≠ .off) (t : Option Nat) :
    s.Keeps ⟨[], B, L⟩ ⟨[], B, L⟩ (s.setAisleTimer id t) := by
  obtain ⟨hkind, -, -, hlegal, hbarrable, hanswering⟩ := (s.node id).service.withAisleTimer_same t
  have hset : (s.setNode id { s.node id with service := (s.node id).service.withAisleTimer t }).Legal := by
    obtain ⟨-, hservice, hmisses, hlive, hbarred, hrange, hanswer⟩ := hs.node id
    refine hs.setNode_on hon ⟨fun hoff => absurd hoff hon, fun _ hnone => ?_, hmisses, hlive, hbarrable ▸ hbarred,
      hlegal.trans hrange, fun ha => hanswer (hanswering ▸ ha)⟩
    exact hservice hon (Service.kind_eq_none.mp (hkind ▸ Service.kind_eq_none.mpr hnone))
  exact (s.setAisleTimer_handOver id t).keeps_of_zones hs (hset.recomputeLights _) (State.recomputeLights_zones _ _) _

end

end Sys2Proof.Machine
end

section
/-! SUPPORT. What every command keeps, part nine: reports applied, line faults and returns. -/

namespace Sys2Proof.Machine

/-! ## Folds with a condition -/

section
variable {s : State}

/-- What each step of a fold keeps while a condition holds, and leaves the condition, the fold keeps. -/
theorem State.Keeps.foldl_while {α : Type} {E : Unsettled} {f : State → α → State} {P : State → Prop} (l : List α)
    (hf : ∀ a ∈ l, ∀ s : State, s.Legal → P s → s.Keeps E E (f s a) ∧ P (f s a)) (hs : s.Legal) (hP : P s) :
    s.Keeps E E (l.foldl f s) := by
  induction l generalizing s with
  | nil => exact .refl hs E
  | cons a l ih =>
    obtain ⟨hkeeps, hnext⟩ := hf a List.mem_cons_self s hs hP
    exact hkeeps.trans fun ht => ih (fun b hb => hf b (List.mem_cons_of_mem a hb)) ht hnext

theorem State.choices_keeps (hs : s.Legal) (n : Nat) (E : Unsettled) : s.Keeps E E { s with choices := n } :=
  .aside hs (hs.setLink s.phase s.ticks s.ignoring s.buffer s.out s.miso n) rfl rfl rfl rfl rfl E

end

/-! ## Row reports -/

/-- A bound ROW node that is LIVE on a SCANNING line: its row is watched (R8). -/
structure State.RowLive (s : State) (id : NodeId) (r n : Nat) : Prop where
  place : id.Exists
  live : (s.node id).state = .live
  scanning : (s.line id.line).state = .scanning
  row : (s.node id).service.rowBinding = some (r, n)

theorem Service.rowBinding_eq_some {v : Service} {r n : Nat} : v.rowBinding = some (r, n) ↔ ∃ g, v = .row r n g := by
  cases v <;> simp [Service.rowBinding]

theorem Service.answer_eq_some {v : Service} {e : Nat} {a : Answer} : v.answer = some (e, a) ↔ v = .entry e a := by
  cases v <;> simp [Service.answer]

theorem Node.rowOf_iff {n : Node} {b : Nat} : n.rowOf b ↔ ∃ r k, n.service.rowBinding = some (r, k) ∧ b / 16 = r := by
  simp only [Node.rowOf, Service.rowBinding_eq_some]
  exact ⟨fun ⟨r, k, g, hr, hb⟩ => ⟨r, k, ⟨g, hr⟩, hb⟩, fun ⟨r, k, ⟨g, hr⟩, hb⟩ => ⟨r, k, g, hr, hb⟩⟩

theorem State.RowLive.watched {s : State} {id : NodeId} {r n i : Nat} (h : s.RowLive id r n) (hs : s.Legal) (hi : i < n) :
    i < 16 ∧ s.Watched (16 * r + i) := by
  obtain ⟨g, hg⟩ := Service.rowBinding_eq_some.mp h.row
  obtain ⟨-, -, -, -, -, hlegal, -⟩ := hs.node id
  have hn : n ≤ 16 := by
    rw [hg] at hlegal
    simp only [Service.legal, Bool.and_eq_true, decide_eq_true_eq] at hlegal
    exact hlegal.2
  exact ⟨by omega, id, r, n, g, h.place, h.live, h.scanning, hg, by omega, by omega⟩

theorem State.RowLive.of_frame {s t : State} {id : NodeId} {r n : Nat} (h : s.RowLive id r n) (hf : s.CensusFrame t) :
    t.RowLive id r n where
  place := h.place
  live := (hf.nodes id).state.trans h.live
  scanning := by
    rw [State.line, hf.lines]
    exact h.scanning
  row := (hf.nodes id).row.trans h.row

section
variable {s : State} {B L : Nat → Prop} (hs : s.Legal)
include hs

theorem State.rowReport_keeps {id : NodeId} {r n : Nat} (h : s.RowLive id r n) (presence : BitVec 16) (motion : Bool) :
    s.Keeps ⟨[], B, L⟩ ⟨[], B, L⟩ (s.rowReport id r n presence motion) := by
  obtain ⟨l, c, -, heq⟩ := s.inAnyOrder_eq
    (fun s i => if i = 0 then s.censusReport r n presence else s.motionReport id motion) [0, 1]
  rw [State.rowReport, heq]
  have hstart : ({ s with choices := c } : State).RowLive id r n := ⟨h.place, h.live, h.scanning, h.row⟩
  refine (State.choices_keeps hs c _).trans fun ht => .foldl_while (P := fun u => u.RowLive id r n) l
    (fun i _ u hu hlive => ?_) ht hstart
  split
  · exact ⟨State.censusReport_keeps hu presence fun j hj => hlive.watched hu hj, hlive.of_frame (u.censusChange_frame _).1⟩
  · unfold State.motionReport
    split
    · have hon : (u.node id).state ≠ .off := by simp [hlive.live]
      exact ⟨State.setAisleTimer_keeps hu hon _, hlive.of_frame (u.setAisleTimer_handOver id _).frame⟩
    · exact ⟨.refl hu _, hlive⟩

/-! ## Entry reports -/

theorem State.setAnswer_keeps {id : NodeId} {e : Nat} {a a' : Answer} (hlive : (s.node id).state = .live)
    (h : (s.node id).service = .entry e a') (ha : a.legal = true) : s.Keeps ⟨[], B, L⟩ ⟨[], B, L⟩ (s.setAnswer id e a) := by
  obtain ⟨-, -, hmisses, hfew, -, hlegal, -⟩ := hs.node id
  have he : decide (e < 8) = true := by
    rw [h] at hlegal
    exact (Bool.and_eq_true_iff.mp hlegal).1
  have hrecord : ({ s.node id with service := .entry e a, outputPending := true } : Node).Legal :=
    ⟨fun hoff => NodeState.noConfusion (hlive.symm.trans hoff), fun _ => Service.noConfusion, hmisses, hfew, fun _ => rfl,
      Bool.and_eq_true_iff.mpr ⟨he, ha⟩, fun _ => hlive⟩
  exact State.setNode_keeps hs (by simp [hlive]) hrecord ⟨by rw [h]; rfl, by rw [h]; rfl, by rw [h]; rfl⟩ fun h => h

/-- A bay that carries a hold is listed (R1). -/
theorem State.heldBay_place {ticket e b : Nat} (h : s.heldBay ticket e = some b) : b < 2048 := by
  obtain ⟨x, hx, rfl⟩ := List.mem_map.mp (List.mem_of_find?_eq_some h)
  exact ((Table.wf_iff _ _ _).mp hs.baysWf).2.1 x hx

theorem State.takeRequest_keeps {id : NodeId} {e : Nat} {a : Answer} (c : BayClass) {ticket : Nat}
    (hlive : (s.node id).state = .live) (h : (s.node id).service = .entry e a) (ht : ticket ≤ 65535) :
    s.Keeps ⟨[], B, L⟩ ⟨[], B, L⟩ (s.takeRequest id e c ticket) := by
  have he : e ≤ 8 := by
    obtain ⟨-, -, -, -, -, hlegal, -⟩ := hs.node id
    rw [h] at hlegal
    exact Nat.le_of_lt (of_decide_eq_true (Bool.and_eq_true_iff.mp hlegal).1)
  have hfull : (Answer.full ticket).legal = true := decide_eq_true ht
  have hoffer : ∀ b, b < 2048 → (Answer.offer ticket b (s.bay b).zone).legal = true := fun b hb => by
    simp [Answer.legal, ht, hb, (hs.bay b).1]
  unfold State.takeRequest
  split
  · rename_i b hb
    exact State.setAnswer_keeps hs hlive h (hoffer b (State.heldBay_place hs hb))
  · split
    · exact State.setAnswer_keeps hs hlive h hfull
    · rename_i b hb
      split
      · rename_i t hplaced
        refine (State.placeHold_keeps hs ht he hplaced).trans fun hlegal => ?_
        unfold State.placeHold at hplaced
        split at hplaced
        · rename_i hallowed
          cases hplaced
          have hlink := (s.censusChange_frame
            [(b, { s.bay b with hold := some ⟨ticket, e, s.site.holdTicks⟩ })]).1.nodes id
          have hservice := Service.answer_eq_some.mp (hlink.answer.trans (Service.answer_eq_some.mpr h))
          exact State.setAnswer_keeps hlegal (hlink.state.trans hlive) hservice
            (hoffer b (hs.bay_place (State.holdAllowed_vacant hallowed).1))
        · cases hplaced
      · exact State.setAnswer_keeps hs hlive h hfull

theorem State.entryReport_keeps {id : NodeId} {e : Nat} {a : Answer} (hlive : (s.node id).state = .live)
    (h : (s.node id).service = .entry e a) (ack : Bool) {req : Option (BayClass × Nat)} (hreq : ∀ p ∈ req, p.2 ≤ 65535) :
    s.Keeps ⟨[], B, L⟩ ⟨[], B, L⟩ (s.entryReport id e a ack req) := by
  unfold State.entryReport
  split
  · exact .refl hs _
  · split
    · rename_i c ticket _
      exact State.takeRequest_keeps hs c hlive h (hreq (c, ticket) rfl)
    · split
      · exact State.setAnswer_keeps hs hlive h rfl
      · exact .refl hs _

/-! ## A report judged -/

omit hs in
/-- A report that a payload carries: the ticket of an entry request fits two bytes (R188). -/
def Report.Fits (r : Report) : Prop :=
  match r with
  | .entry _ req => ∀ p ∈ req, p.2 ≤ 65535
  | .row _ _ => True
  | .gas _ _ _ _ => True
  | .fan _ _ => True

omit hs in
theorem wordAt_le (p : List Byte) (i : Nat) : wordAt p i ≤ 65535 := by
  have h : ∀ j, byteAt p j < 256 := fun j => (p.getD j 0#8).isLt
  have := h i
  have := h (i + 1)
  unfold wordAt
  omega

omit hs in
theorem reportOf_fits {k : NodeKind} {p : List Byte} {r : Report} (h : reportOf k p = some r) : r.Fits := by
  cases k <;> simp only [reportOf] at h
  case row | gas | fan =>
    split at h <;> cases h
    trivial
  case sign => cases h
  case entry =>
    split at h
    · split at h
      · split at h <;> cases h
        rename_i c hc
        intro x hx
        cases Option.mem_some.mp hx
        exact wordAt_le p 2
      · cases h
        exact fun x hx => (Option.not_mem_none x hx).elim
    · cases h

omit hs in
theorem parseReply_fits {k : NodeKind} {a : Nat} {chars : List Char9} {tog : Bool} {r : Report}
    (h : parseReply k a chars = some (.report tog r)) : r.Fits := by
  unfold parseReply at h
  split at h
  · cases h
  · split at h
    · unfold replyOfBytes at h
      dsimp only at h
      repeat' split at h
      all_goals cases h
      exact reportOf_fits ‹_›
    · cases h

/-- A report applied for a LIVE node whose line is SCANNING (R85). -/
theorem State.applyReport_keeps {id : NodeId} (hid : id.Exists) (hlive : (s.node id).state = .live)
    (hscan : (s.line id.line).state = .scanning) {body : Report} (hbody : body.Fits) :
    s.Keeps ⟨[], B, L⟩ ⟨[], B, L⟩ (s.applyReport id body) := by
  cases body with
  | row presence motion =>
    simp only [State.applyReport]
    split
    · rename_i r n hrow
      exact State.rowReport_keeps hs ⟨hid, hlive, hscan, hrow⟩ presence motion
    · exact .refl hs _
  | gas r0 v0 r1 v1 => exact State.gasReport_keeps hs id r0 v0 r1 v1
  | fan proof trip => exact State.fanReport_keeps hs id proof trip
  | entry ack req =>
    simp only [State.applyReport]
    split
    · rename_i e a hanswer
      exact State.entryReport_keeps hs hlive (Service.answer_eq_some.mp hanswer) ack hbody
    · exact .refl hs _

theorem State.judgeReport_keeps {id : NodeId} (hid : id.Exists)
    (hstate : (s.node id).state = .live ∨ (s.node id).state = .barred) (hscan : (s.line id.line).state = .scanning)
    (tog : Bool) {body : Report} (hbody : body.Fits) : s.Keeps ⟨[], B, L⟩ ⟨[], B, L⟩ (s.judgeReport id tog body) := by
  have hon : (s.node id).state ≠ .off := by rcases hstate with h | h <;> simp [h]
  unfold State.judgeReport
  dsimp only
  split
  · have hset : s.Keeps ⟨[], B, L⟩ ⟨[], B, L⟩ (s.setNode id
        { s.node id with toggle := opposite tog, marker := (s.node id).markerFor body }) := by
      obtain ⟨-, hservice, hmisses, hfew, hbarred, hlegal, hanswer⟩ := hs.node id
      exact State.setNode_keeps hs hon ⟨fun hoff => absurd hoff hon, hservice, hmisses, hfew, hbarred, hlegal, hanswer⟩
        ⟨rfl, rfl, rfl⟩ fun h => h
    split
    · exact hset
    · rename_i hnot
      refine hset.trans fun ht => State.applyReport_keeps ht hid ?_ hscan hbody
      rw [State.node_setNode_self]
      exact hstate.resolve_right hnot
  · exact .refl hs _

/-- A reply taken by the record as it stands (R75). -/
theorem State.replyTo_keeps {id : NodeId} (hid : id.Exists) (hscan : (s.line id.line).state = .scanning) (command : Bool)
    (chars : List Char9) : s.Keeps ⟨[], B, L⟩ ⟨[], B, L⟩ (s.replyTo id command chars) := by
  unfold State.replyTo
  split
  · exact .refl hs _
  · rename_i hon
    split
    · exact .refl hs _
    · split
      · rename_i r hr
        cases r with
        | null => exact State.answeredVisit_keeps hs hon
        | report tog body =>
          refine (State.answeredVisit_keeps hs hon).trans fun ht => State.judgeReport_keeps ht hid ?_ ?_ tog
            (parseReply_fits hr)
          · rw [State.answeredVisit_node, State.node_setNode_self]
            cases hstate : (s.node id).state <;> simp [Node.answered, hstate] at hon ⊢
          · rw [State.answeredVisit_writes]
            exact hscan
      · exact State.miss_keeps hs id command

end

end Sys2Proof.Machine
end

section
/-! SUPPORT. What every command keeps, part ten: a line in FAULT and back, and a visit started. -/

namespace Sys2Proof.Machine

/-! ## What silence leaves of the other nodes -/

/-- Every node record of `t` differs from that of `s` at most in its mark and its light set. -/
def State.LinksSame (s t : State) : Prop := ∀ id, (s.node id).SameLink (t.node id)

theorem State.LinksSame.foldl {α : Type} {f : State → α → State} (hf : ∀ (s : State) a, s.LinksSame (f s a)) (l : List α)
    (s : State) : s.LinksSame (l.foldl f s) := by
  induction l generalizing s with
  | nil => exact fun _ => .refl _
  | cons a l ih => exact fun id => (hf s a id).trans (ih _ id)

theorem State.staleGasNode_links (s : State) (id : NodeId) : s.LinksSame (s.staleGasNode id) :=
  .foldl (fun s z => (s.changeZone_frame z _).nodes) _ s

theorem State.silenceFanNode_links (s : State) (id : NodeId) : s.LinksSame (s.silenceFanNode id) := by
  refine .foldl (fun s z => ?_) _ s
  split
  · exact (s.putZone_handOver z _ (Zone.silenceStage_inputs _ _).air).frame.nodes
  · exact fun _ => .refl _

theorem State.silenced_links (s : State) {id j : NodeId} (hj : j.key ≠ id.key) :
    (s.node j).SameLink ((s.silenced id).node j) := by
  rw [State.silenced, State.raiseNodeEvent_node, State.node_setNode, if_neg hj]
  exact .refl _

/-- The silence of one node leaves every other node's record but for marks and light sets (R72). -/
theorem State.goSilent_links {s : State} (hs : s.Legal) {id j : NodeId} (hon : (s.node id).state ≠ .off)
    (hj : j.key ≠ id.key) : (s.node j).SameLink ((s.goSilent id).node j) := by
  have hset : ∀ n, (s.setNode id n).node j = s.node j := fun n => by rw [State.node_setNode, if_neg hj]
  obtain ⟨-, hservice, -⟩ := hs.node id
  cases hkind : (s.node id).service with
  | none => exact absurd hkind (hservice hon)
  | row r n g =>
    rw [s.goSilent_row hkind]
    exact (s.silenced_links hj).trans (((s.silenced id).censusChange_frame _).1.nodes j)
  | gas =>
    rw [s.goSilent_gas hkind]
    exact (s.silenced_links hj).trans ((s.silenced id).staleGasNode_links id j)
  | fan =>
    rw [s.goSilent_fan hkind]
    exact (s.silenced_links hj).trans ((s.silenced id).silenceFanNode_links id j)
  | sign =>
    rw [s.goSilent_sign hkind, State.raiseSite_node, hset]
    exact .refl _
  | entry e a =>
    rw [s.goSilent_entry hkind, State.raiseSite_node, hset]
    exact .refl _

/-! ## A line in FAULT (R82) -/

section
variable {s : State} {B L : Nat → Prop} (hs : s.Legal)
include hs

omit hs in
/-- The bays that nodes of a list report. -/
def State.rowsOf (s : State) (l : List Nat) (b : Nat) : Prop := ∃ k ∈ l, (s.node (nodeIdOf k)).rowOf b

/-- Each of several LIVE nodes goes silent: none of their bays is left to settle. -/
theorem State.silences_keep {l : List Nat} (hnodup : l.Nodup) (hlive : ∀ k ∈ l, (s.node (nodeIdOf k)).state = .live) :
    s.Keeps ⟨[], s.rowsOf l, L⟩ ⟨[], fun _ => False, L⟩ (l.foldl (fun s k => s.goSilent (nodeIdOf k)) s) := by
  induction l generalizing s with
  | nil => exact .of_settled (.refl hs _) fun _ ⟨_, hk, _⟩ => absurd hk List.not_mem_nil
  | cons k l ih =>
    obtain ⟨hfresh, hrest⟩ := List.nodup_cons.mp hnodup
    have hk := hlive k List.mem_cons_self
    have hon : (s.node (nodeIdOf k)).state ≠ .off := by simp [hk]
    have hlink : ∀ j ∈ l, (s.node (nodeIdOf j)).SameLink ((s.goSilent (nodeIdOf k)).node (nodeIdOf j)) := fun j hj =>
      State.goSilent_links hs hon fun heq => by
        rw [nodeIdOf_key, nodeIdOf_key] at heq
        exact hfresh (heq ▸ hj)
    have hstep : s.Keeps ⟨[], s.rowsOf (k :: l), L⟩ ⟨[], (s.goSilent (nodeIdOf k)).rowsOf l, L⟩ (s.goSilent (nodeIdOf k)) := by
      refine .of_settled (State.goSilent_keeps hs hk) fun b ⟨⟨j, hj, hrow⟩, hnot⟩ => ?_
      rcases List.mem_cons.mp hj with rfl | hj
      · exact absurd hrow hnot
      · refine ⟨j, hj, ?_⟩
        rw [Node.rowOf_iff] at hrow ⊢
        rwa [(hlink j hj).row]
    exact hstep.trans fun ht => ih ht hrest fun j hj => (hlink j hj).state.trans (hlive j (List.mem_cons_of_mem k hj))

theorem State.abandonVisit_keeps {E : Unsettled} (l : Nat) (v : Option Visit) : s.Keeps E E (s.abandonVisit l v) := by
  unfold State.abandonVisit
  split
  · split
    · exact State.markOutput_keeps hs E _
    · exact .refl hs E
  · exact .refl hs E

omit hs in
theorem State.abandonVisit_node (s : State) (l : Nat) (v : Option Visit) (j : NodeId) :
    (s.node j).SameLink ((s.abandonVisit l v).node j) := by
  unfold State.abandonVisit
  split
  · split
    · exact (s.markOutput_handOver _).frame.nodes j
    · exact .refl _
  · exact .refl _

omit hs in
theorem State.mem_liveNodes {s : State} {l k : Nat} :
    k ∈ s.liveNodes l ↔ (s.node (nodeIdOf k)).state = .live ∧ k / 64 = l := by
  have hmem := State.mem_nodesWhere (s := s) (p := fun n => decide (n.state = .live)) rfl (nodeIdOf k)
  rw [nodeIdOf_key] at hmem
  rw [State.liveNodes, List.mem_filter, hmem, decide_eq_true_eq, decide_eq_true_eq]

theorem State.Legal.keys_nodup : (Table.keys s.nodes).Nodup := by
  obtain ⟨hpairs, -, -⟩ := (Table.wf_iff _ _ _).mp hs.nodesWf
  exact (List.pairwise_map.mpr hpairs).imp fun h => Nat.ne_of_lt h

theorem State.Legal.liveNodes_nodup (l : Nat) : (s.liveNodes l).Nodup := (hs.keys_nodup.filter _).filter _

omit hs in
theorem Line.faulted_legal {x : Line} (h : x.Legal) (hde : x.de = false) : x.faulted.Legal := by
  obtain ⟨hscan, -⟩ := h
  refine ⟨hscan, Nat.succ_pos _, fun n hn => ?_, fun v hv => (Option.not_mem_none v hv).elim, fun hd => ?_, .inl rfl,
    .inr ⟨rfl, rfl⟩, fun _ => Bool.noConfusion⟩
  · cases Option.mem_some.mp hn
    exact Nat.le_refl 10
  · exact Bool.noConfusion (hde.symm.trans hd)

/-- A line enters FAULT and its LIVE nodes go silent: what they reported is DARK (R8, R82). -/
theorem State.enterFault_keeps {l : Nat} (hscan : (s.line l).state = .scanning) (hde : (s.line l).de = false) :
    s.Keeps ⟨[], fun _ => False, L⟩ ⟨[], fun _ => False, L⟩ (s.enterFault l) := by
  have hl : l < 4 := hs.line_place fun heq => by rw [heq] at hscan; cases hscan
  let s1 := ((s.setLine l (s.line l).faulted).abandonVisit l (s.line l).visit).raiseSite .lineFault
  obtain ⟨ks, c, hperm, heq⟩ := s1.inAnyOrder_eq (fun s k => s.goSilent (nodeIdOf k)) (s1.liveNodes l)
  have hlink : ∀ j, (s.node j).SameLink (s1.node j) := fun j =>
    (s.setLine l (s.line l).faulted).abandonVisit_node l (s.line l).visit j
  have hfaulted : s.Keeps ⟨[], fun _ => False, L⟩ ⟨[], s1.rowsOf ks, L⟩ (s.setLine l (s.line l).faulted) := by
    refine State.setLine_keeps_unwatched hs hl (Line.faulted_legal (hs.line l) hde) ?_
      (fun v hv => (Option.not_mem_none v hv).elim) fun b hnot => ⟨id, fun hw => ?_⟩
    · exact ⟨fun h => LineState.noConfusion h, fun h => LineState.noConfusion (hscan.symm.trans h)⟩
    · obtain ⟨i, r, n, g, hi, hlive, hiscan, hservice, hrow, hlt⟩ := hw
      by_cases hil : i.line = l
      · have hkey : (s.node (nodeIdOf i.key)) = s.node i := s.node_nodeIdOf_key i
        have hmem : i.key ∈ ks := hperm.mem_iff.mpr <| State.mem_liveNodes.mpr
          ⟨(hlink _).state.trans (hkey ▸ hlive), hil ▸ NodeId.key_div hi⟩
        refine absurd ⟨i.key, hmem, ?_⟩ hnot
        rw [Node.rowOf_iff, (hlink _).row, hkey, hservice]
        exact ⟨r, n, rfl, hrow⟩
      · exact ⟨i, r, n, g, hi, hlive, by rwa [State.line_setLine, if_neg hil], hservice, hrow, hlt⟩
  show s.Keeps _ _ (s1.inAnyOrder (fun s k => s.goSilent (nodeIdOf k)) (s1.liveNodes l))
  rw [heq]
  refine hfaulted.trans fun ht => (State.abandonVisit_keeps ht l (s.line l).visit).trans fun hu =>
    (State.raiseSite_keeps hu _ .lineFault).trans
    fun hv => (State.choices_keeps hv c _).trans fun hw => ?_
  exact State.silences_keep hw (hperm.nodup_iff.mpr (hv.liveNodes_nodup l)) fun k hk =>
    (State.mem_liveNodes.mp (hperm.mem_iff.mp hk)).1

/-! ## Back to SCANNING (R83) -/

theorem State.relearnLine_keeps (l : Nat) : s.Keeps ⟨[], B, L⟩ ⟨[], B, L⟩ (s.relearnLine l) := by
  refine .foldl _ (fun k hk t ht => ?_) hs
  have hkey : (nodeIdOf k).key < 256 ∧ (nodeIdOf k).key % 64 ≠ 0 := by
    rw [nodeIdOf_key]
    obtain ⟨e, he, rfl⟩ := List.mem_map.mp (List.mem_filter.mp (List.mem_filter.mp hk).1).1
    exact ⟨((Table.wf_iff _ _ _).mp hs.nodesWf).2.1 e he, (hs.nodes e he).1⟩
  have hrecord : (t.node (nodeIdOf k)).relearned.Legal := by
    unfold Node.relearned
    split
    · exact ht.node _
    · rename_i hon
      obtain ⟨-, hservice, hmisses, hfew, hbarred, hlegal, hanswer⟩ := ht.node (nodeIdOf k)
      exact ⟨fun h => absurd h hon, hservice, hmisses, hfew, hbarred, hlegal, hanswer⟩
  have hfields : (t.node (nodeIdOf k)).relearned.service = (t.node (nodeIdOf k)).service
      ∧ (t.node (nodeIdOf k)).relearned.state = (t.node (nodeIdOf k)).state := by
    unfold Node.relearned
    split <;> exact ⟨rfl, rfl⟩
  obtain ⟨hservice, hstate⟩ := hfields
  exact State.setNode_keeps_unwatched ht hkey hrecord ⟨by rw [hservice], by rw [hservice], by rw [hservice]⟩
    fun _ hB => ⟨hB, fun _ hlive => hstate.trans hlive⟩

/-! ## A visit started (R68) -/

theorem State.beginVisit_keeps {l a : Nat} (hscan : (s.line l).state = .scanning) (hon : (s.node ⟨l, a⟩).state ≠ .off)
    (hid : NodeId.Exists ⟨l, a⟩) : s.Keeps ⟨[], B, L⟩ ⟨[], B, L⟩ (s.beginVisit l a) := by
  have hvisited : s.Keeps ⟨[], B, L⟩ ⟨[], B, L⟩ (s.setNode ⟨l, a⟩ (s.node ⟨l, a⟩).visited) := by
    have hv : ∃ p, (s.node ⟨l, a⟩).visited = { s.node ⟨l, a⟩ with outputPending := p } := by
      unfold Node.visited
      split
      · exact ⟨_, rfl⟩
      · exact ⟨(s.node ⟨l, a⟩).outputPending, rfl⟩
    obtain ⟨p, hp⟩ := hv
    rw [hp]
    exact State.setNode_keeps hs hon ((hs.node _).marked hon p) ⟨rfl, rfl, rfl⟩ fun h => h
  have hnode : ((s.setNode ⟨l, a⟩ (s.node ⟨l, a⟩).visited).node ⟨l, a⟩).state ≠ .off := by
    rw [State.node_setNode_self]
    unfold Node.visited
    split <;> exact hon
  refine hvisited.trans fun ht => ?_
  obtain ⟨-, hmeasure, hprobe, -, -, hwatch, -, hfault⟩ := hs.line l
  have hsent : (s.line l).measureAtSend s.choices < 20 := by
    unfold Line.measureAtSend
    split
    · omega
    · exact hmeasure
  refine (State.setLine_keeps ht (x := { s.line l with
    scan := a, visit := some ⟨a, (s.node ⟨l, a⟩).takesCommand, s.visitFrame ⟨l, a⟩, false⟩, de := true,
    breakMeasure := (s.line l).measureAtSend s.choices }) hid.1 ⟨hid.2.2, hsent, hprobe, fun v hv => ?_, fun _ => rfl, hwatch, .inl hscan, hfault⟩
    Iff.rfl (fun h => h) fun v hv _ => ?_).trans fun hu => State.choices_keeps hu _ _
  · cases Option.mem_some.mp hv
    exact hid.2
  · cases Option.mem_some.mp hv
    exact .inl hnode

end

end Sys2Proof.Machine
end

section
/-! SUPPORT. What every command keeps, part eleven: the requests that write a zone record, and its slot and stage lists. -/

namespace Sys2Proof.Machine

/-! ## Lists of bindings -/

/-- The items of several lists stay distinct when one list is changed to distinct items, each of its own or new. -/
theorem nodup_flatMap_update {α : Type} {f f' : Nat → List α} {n z : Nat}
    (h : ((List.range n).flatMap f).Nodup) (hsame : ∀ y, y ≠ z → f' y = f y) (hz : (f z).Nodup → (f' z).Nodup)
    (hmem : ∀ a ∈ f' z, a ∈ f z ∨ ∀ y, y < n → a ∉ f y) : ((List.range n).flatMap f').Nodup := by
  rw [List.Nodup, List.pairwise_flatMap] at h ⊢
  obtain ⟨hnodup, hdisjoint⟩ := h
  have hold : ∀ y x, x ∈ f' y → x ∈ f y ∨ y = z ∧ ∀ i, i < n → x ∉ f i := fun y x hx => by
    by_cases heq : y = z
    · subst heq
      exact (hmem x hx).imp_right fun h => ⟨rfl, h⟩
    · exact .inl (hsame y heq ▸ hx)
  refine ⟨fun y hy => ?_, (hdisjoint.and List.nodup_range).imp_of_mem fun {a b} ha hb ⟨hd, hne⟩ x hxa y hxb heq => ?_⟩
  · by_cases heq : y = z
    · subst heq
      exact hz (hnodup y hy)
    · rw [hsame y heq]
      exact hnodup y hy
  · subst heq
    rcases hold a x hxa with hxa' | ⟨haz, hnew⟩ <;> rcases hold b x hxb with hxb' | ⟨hbz, hnew'⟩
    · exact hd x hxa' x hxb' rfl
    · exact hnew' a (List.mem_range.mp ha) hxa'
    · exact hnew b (List.mem_range.mp hb) hxb'
    · exact hne (haz.trans hbz.symm)

/-- The numbers whose record gives a value each give their own. -/
theorem nodup_range_filterMap_iff {α : Type} {f : Nat → Option α} {n : Nat} :
    ((List.range n).filterMap f).Nodup ↔ ∀ i j a, i < n → j < n → f i = some a → f j = some a → i = j := by
  rw [List.Nodup, List.pairwise_filterMap]
  constructor
  · intro hp i j a hi hj hia hja
    refine Classical.byContradiction fun hne => ?_
    exact rel_of_pairwise (fun i j h b hb b' hb' heq => h b' hb' b hb heq.symm) hp (List.mem_range.mpr hi)
      (List.mem_range.mpr hj) hne a hia a hja rfl
  · exact fun hall => List.nodup_range.imp_of_mem fun hi hj hne b hb b' hb' heq =>
      hne (hall _ _ b (List.mem_range.mp hi) (List.mem_range.mp hj) hb (heq ▸ hb'))

/-! ## A zone record with other slots or stages -/

section
variable {s : State} {B L : Nat → Prop} (hs : s.Legal)
include hs

omit hs in
/-- A zone record written with other slots and stages: each names a node of its kind, and names what no other does. -/
theorem State.BindingsSound.setZone_lists (h : s.BindingsSound) {z : Nat} {x : Zone}
    (slots : ∀ g ∈ x.slots, (s.node g.node).service = .gas) (stages : ∀ g ∈ x.stages, (s.node g.node).service = .fan)
    (slotsOnce : ((s.zone z).slots.map fun g => (g.node, g.channel)).Nodup → (x.slots.map fun g => (g.node, g.channel)).Nodup)
    (stagesOnce : ((s.zone z).stages.map (·.node)).Nodup → (x.stages.map (·.node)).Nodup)
    (slotsNew : ∀ a ∈ x.slots.map (fun g => (g.node, g.channel)), a ∈ (s.zone z).slots.map (fun g => (g.node, g.channel))
      ∨ ∀ y, y < 32 → a ∉ (s.zone y).slots.map fun g => (g.node, g.channel))
    (stagesNew : ∀ a ∈ x.stages.map (·.node), a ∈ (s.zone z).stages.map (·.node)
      ∨ ∀ y, y < 32 → a ∉ (s.zone y).stages.map (·.node)) : (s.setZone z x).BindingsSound := by
  have hself := s.zone_setZone_self z x
  have hother : ∀ y, y ≠ z → (s.setZone z x).zone y = s.zone y := fun y hy => by rw [State.zone_setZone, if_neg hy]
  refine { h with slots := fun y hy g hg => ?_, stages := fun y hy g hg => ?_, channelsOnce := ?_, fansOnce := ?_ }
  · by_cases heq : y = z
    · rw [heq, hself] at hg
      exact slots g hg
    · rw [hother y heq] at hg
      exact h.slots y hy g hg
  · by_cases heq : y = z
    · rw [heq, hself] at hg
      exact stages g hg
    · rw [hother y heq] at hg
      exact h.stages y hy g hg
  · refine nodup_flatMap_update h.channelsOnce (fun y hy => by rw [hother y hy]) ?_ ?_ (z := z) <;> rw [hself]
    · exact slotsOnce
    · exact slotsNew
  · refine nodup_flatMap_update h.fansOnce (fun y hy => by rw [hother y hy]) ?_ ?_ (z := z) <;> rw [hself]
    · exact stagesOnce
    · exact stagesNew

omit hs in
/-- The slots of a zone changed, its stages named as they were. -/
theorem State.BindingsSound.setZone_slots (h : s.BindingsSound) {z : Nat} {x : Zone} (hz : z < 32)
    (hstages : x.stages.map (·.node) = (s.zone z).stages.map (·.node))
    (slots : ∀ g ∈ x.slots, (s.node g.node).service = .gas)
    (slotsOnce : ((s.zone z).slots.map fun g => (g.node, g.channel)).Nodup → (x.slots.map fun g => (g.node, g.channel)).Nodup)
    (slotsNew : ∀ a ∈ x.slots.map (fun g => (g.node, g.channel)), a ∈ (s.zone z).slots.map (fun g => (g.node, g.channel))
      ∨ ∀ y, y < 32 → a ∉ (s.zone y).slots.map fun g => (g.node, g.channel)) : (s.setZone z x).BindingsSound := by
  refine h.setZone_lists slots (fun _ hg => ?_) slotsOnce (fun k => hstages ▸ k) slotsNew fun _ ha => .inl (hstages ▸ ha)
  rename_i g
  have hmem : g.node ∈ (s.zone z).stages.map (·.node) := hstages ▸ List.mem_map_of_mem (f := fun g : Stage => g.node) hg
  obtain ⟨g', hg', hnode⟩ := List.mem_map.mp hmem
  exact hnode ▸ h.stages z hz g' hg'

omit hs in
theorem State.BindingsSound.setZone_stages (h : s.BindingsSound) {z : Nat} {x : Zone} (hz : z < 32)
    (hslots : x.slots = (s.zone z).slots) (stages : ∀ a ∈ x.stages.map (·.node), (s.node a).service = .fan)
    (stagesOnce : ((s.zone z).stages.map (·.node)).Nodup → (x.stages.map (·.node)).Nodup)
    (stagesNew : ∀ a ∈ x.stages.map (·.node), a ∈ (s.zone z).stages.map (·.node)
      ∨ ∀ y, y < 32 → a ∉ (s.zone y).stages.map (·.node)) : (s.setZone z x).BindingsSound :=
  h.setZone_lists (hslots ▸ h.slots z hz) (fun _ hg => stages _ (List.mem_map_of_mem (f := fun g : Stage => g.node) hg))
    (fun k => hslots ▸ k) stagesOnce (fun _ ha => .inl (hslots ▸ ha)) stagesNew

/-- A zone record that stays IN_USE, with its lists changed soundly. -/
theorem State.changeZone_keeps_inUse {z : Nat} (hz : z < 32) {x : Zone} (sound : (s.zone z).Sound x) (inUse : x.inUse = true)
    (tallies : x.tallies = (s.zone z).tallies) (bindings : s.BindingsSound → (s.setZone z x).BindingsSound) :
    s.Keeps ⟨[], B, L⟩ ⟨[], B, L⟩ (s.changeZone z x) :=
  State.changeZone_keeps B L hs hz sound bindings
    (fun k => k.setZone fun hfree => Bool.noConfusion (inUse.symm.trans hfree)) fun _ k => tallies.trans k

omit hs in
theorem removeAt_eraseIdx {α : Type} (l : List α) (i : Nat) : removeAt l i = l.eraseIdx i := by
  rw [removeAt_eq, List.eraseIdx_eq_take_drop_succ]

omit hs in
theorem mem_removeAt {α : Type} {l : List α} {i : Nat} {a : α} (h : a ∈ removeAt l i) : a ∈ l := by
  rw [removeAt_eraseIdx] at h
  exact List.mem_of_mem_eraseIdx h

omit hs in
theorem map_eraseIdx {α β : Type} (f : α → β) (l : List α) (i : Nat) : (l.eraseIdx i).map f = (l.map f).eraseIdx i := by
  induction l generalizing i with
  | nil => rfl
  | cons a l ih =>
    cases i with
    | zero => rfl
    | succ i => exact congrArg (f a :: ·) (ih i)

omit hs in
theorem map_removeAt {α β : Type} (f : α → β) (l : List α) (i : Nat) : (removeAt l i).map f = removeAt (l.map f) i := by
  rw [removeAt_eraseIdx, removeAt_eraseIdx, map_eraseIdx]

omit hs in
theorem nodup_removeAt {α : Type} {l : List α} (h : l.Nodup) (i : Nat) : (removeAt l i).Nodup := by
  rw [removeAt_eraseIdx]
  exact h.sublist (List.eraseIdx_sublist _ _)

omit hs in
theorem removeAt_length_le {α : Type} (l : List α) (i : Nat) : (removeAt l i).length ≤ l.length := by
  rw [removeAt_eraseIdx]
  exact (List.eraseIdx_sublist l i).length_le

/-- A slot bound (R58). -/
theorem State.slotBind_keeps {z ch ref : Nat} {id : NodeId} (hz : z < 32) (hid : id.Exists) (hch : ch ≤ 1)
    (href : 1 ≤ ref ∧ ref ≤ 4095) (hinUse : (s.zone z).inUse = true) (hgas : (s.node id).service = .gas)
    (hroom : (s.zone z).slots.length < 4) (hfree : s.channelTaken id ch = false) :
    s.Keeps ⟨[], B, L⟩ ⟨[], B, L⟩ (s.changeZone z ((s.zone z).withSlots ((s.zone z).slots ++ [boundSlot id ch ref]))) := by
  let slots := (s.zone z).slots ++ [boundSlot id ch ref]
  have hsound : (s.zone z).Sound ((s.zone z).withSlots slots) := Zone.withSlots_sound fun h => by
    refine ⟨by rw [List.length_append]; exact hroom, fun g hg => ?_⟩
    rcases List.mem_append.mp hg with hg | hg
    · exact h.slots.2 g hg
    · rw [List.mem_singleton.mp hg]
      exact ⟨hid, hch, href.1, href.2, Nat.zero_le _, Nat.zero_le _, .inr rfl⟩
  obtain ⟨huse, -, -, -, -, -, htallies⟩ := (s.zone z).withSlots_settings slots
  have hnew : ∀ y, y < 32 → (id, ch) ∉ (s.zone y).slots.map fun g => (g.node, g.channel) := fun y hy hmem => by
    obtain ⟨g, hg, heq⟩ := List.mem_map.mp hmem
    obtain ⟨hnode, hchannel⟩ := Prod.mk.inj heq
    refine Bool.noConfusion (hfree.symm.trans (List.any_eq_true.mpr ⟨y, List.mem_range.mpr hy, ?_⟩))
    exact List.any_eq_true.mpr ⟨g, hg, by simp [hnode, hchannel]⟩
  refine State.changeZone_keeps_inUse hs hz hsound (huse.trans hinUse) htallies fun k => ?_
  refine k.setZone_slots hz ((s.zone z).withSlots_stages slots) (fun g hg => ?_) (fun hn => ?_) fun a ha => ?_
  · rw [Zone.withSlots_slots] at hg
    rcases List.mem_append.mp hg with hg | hg
    · exact k.slots z hz g hg
    · rw [List.mem_singleton.mp hg]
      exact hgas
  · rw [Zone.withSlots_slots, List.map_append]
    exact List.nodup_append.mpr ⟨hn, List.pairwise_singleton _ _, fun a ha b hb => by
      rintro rfl
      rw [List.mem_singleton.mp hb] at ha
      exact hnew z hz ha⟩
  · rw [Zone.withSlots_slots, List.map_append] at ha
    refine (List.mem_append.mp ha).imp_right fun ha => ?_
    rw [List.mem_singleton.mp ha]
    exact hnew

/-- A slot unbound (R59). -/
theorem State.slotUnbind_keeps {z : Nat} (hz : z < 32) (hinUse : (s.zone z).inUse = true) (i : Nat) :
    s.Keeps ⟨[], B, L⟩ ⟨[], B, L⟩ (s.changeZone z ((s.zone z).withSlots (removeAt (s.zone z).slots i))) := by
  let slots := removeAt (s.zone z).slots i
  have hsound : (s.zone z).Sound ((s.zone z).withSlots slots) := Zone.withSlots_sound fun h =>
    ⟨Nat.le_trans (removeAt_length_le _ _) h.slots.1, fun g hg => h.slots.2 g (mem_removeAt hg)⟩
  obtain ⟨huse, -, -, -, -, -, htallies⟩ := (s.zone z).withSlots_settings slots
  refine State.changeZone_keeps_inUse hs hz hsound (huse.trans hinUse) htallies fun k => ?_
  refine k.setZone_slots hz ((s.zone z).withSlots_stages slots) (fun g hg => ?_) (fun hn => ?_) fun a ha => .inl ?_
  · rw [Zone.withSlots_slots] at hg
    exact k.slots z hz g (mem_removeAt hg)
  · rw [Zone.withSlots_slots, map_removeAt]
    exact nodup_removeAt hn i
  · rw [Zone.withSlots_slots, map_removeAt] at ha
    exact mem_removeAt ha

/-- A stage bound (R60). -/
theorem State.stageBind_keeps {z : Nat} {id : NodeId} (hz : z < 32) (hid : id.Exists) (hinUse : (s.zone z).inUse = true)
    (hidle : (s.zone z).seq = .idle) (hfan : (s.node id).service = .fan) (hroom : (s.zone z).stages.length < 4)
    (hfree : s.fanTaken id = false) :
    s.Keeps ⟨[], B, L⟩ ⟨[], B, L⟩ (s.changeZone z ((s.zone z).withStages ((s.zone z).stages ++ [boundStage id]))) := by
  let stages := (s.zone z).stages ++ [boundStage id]
  have hsound : (s.zone z).Sound ((s.zone z).withStages stages) := by
    refine Zone.withStages_sound hidle (fun h => ?_) fun h g hg => ?_
    · obtain ⟨-, -, -, -, -, -, -, -, hnodes, -⟩ := h
      refine ⟨by rw [List.length_append]; exact hroom, fun g hg => ?_⟩
      rcases List.mem_append.mp hg with hg | hg
      · exact hnodes g hg
      · rw [List.mem_singleton.mp hg]
        exact hid
    · rcases List.mem_append.mp hg with hg | hg
      · exact h g hg
      · rw [List.mem_singleton.mp hg]
        simp [boundStage, Stage.Legal]
  have hinputs := (s.zone z).withStages_inputs stages
  have hnew : ∀ y, y < 32 → id ∉ (s.zone y).stages.map (·.node) := fun y hy hmem => by
    obtain ⟨g, hg, hnode⟩ := List.mem_map.mp hmem
    refine Bool.noConfusion (hfree.symm.trans (List.any_eq_true.mpr ⟨y, List.mem_range.mpr hy, ?_⟩))
    exact List.any_eq_true.mpr ⟨g, hg, by simp [hnode]⟩
  refine State.changeZone_keeps_inUse hs hz hsound (hinputs.air.inUse.trans hinUse) hinputs.tallies fun k => ?_
  refine k.setZone_stages hz hinputs.air.slots (fun a ha => ?_) (fun hn => ?_) fun a ha => ?_
  · rw [Zone.withStages_names, List.map_append] at ha
    rcases List.mem_append.mp ha with ha | ha
    · obtain ⟨g, hg, rfl⟩ := List.mem_map.mp ha
      exact k.stages z hz g hg
    · rw [List.mem_singleton.mp ha]
      exact hfan
  · rw [Zone.withStages_names, List.map_append]
    exact List.nodup_append.mpr ⟨hn, List.pairwise_singleton _ _, fun a ha b hb => by
      rintro rfl
      rw [List.mem_singleton.mp hb] at ha
      exact hnew z hz ha⟩
  · rw [Zone.withStages_names, List.map_append] at ha
    refine (List.mem_append.mp ha).imp_right fun ha => ?_
    rw [List.mem_singleton.mp ha]
    exact hnew

/-- A stage unbound (R61). -/
theorem State.stageUnbind_keeps {z : Nat} (hz : z < 32) (hinUse : (s.zone z).inUse = true)
    (hidle : (s.zone z).seq = .idle) (i : Nat) :
    s.Keeps ⟨[], B, L⟩ ⟨[], B, L⟩ (s.changeZone z ((s.zone z).withStages (removeAt (s.zone z).stages i))) := by
  let stages := removeAt (s.zone z).stages i
  have hsound : (s.zone z).Sound ((s.zone z).withStages stages) := by
    refine Zone.withStages_sound hidle (fun h => ?_) fun h g hg => h g (mem_removeAt hg)
    obtain ⟨-, -, -, -, -, -, -, hlen, hnodes, -⟩ := h
    exact ⟨Nat.le_trans (removeAt_length_le _ _) hlen, fun g hg => hnodes g (mem_removeAt hg)⟩
  have hinputs := (s.zone z).withStages_inputs stages
  refine State.changeZone_keeps_inUse hs hz hsound (hinputs.air.inUse.trans hinUse) hinputs.tallies fun k => ?_
  refine k.setZone_stages hz hinputs.air.slots (fun a ha => ?_) (fun hn => ?_) fun a ha => .inl ?_
  · rw [Zone.withStages_names, map_removeAt] at ha
    obtain ⟨g, hg, rfl⟩ := List.mem_map.mp (mem_removeAt ha)
    exact k.stages z hz g hg
  · rw [Zone.withStages_names, map_removeAt]
    exact nodup_removeAt hn i
  · rw [Zone.withStages_names, map_removeAt] at ha
    exact mem_removeAt ha

/-! ## Settings of a zone -/

theorem State.levelChanged_keeps {E : Unsettled} (z before after : Nat) :
    s.Keeps E E (s.levelChanged z before after) := by
  unfold State.levelChanged
  split
  · exact .refl hs E
  · exact .foldl _ (fun k _ _ ht => State.markOutput_keeps ht E _) hs

omit hs in
theorem Zone.configured_kept (z : Zone) (cfg : ZoneParams) :
    (z.configured cfg).inUse = true ∧ (z.configured cfg).tallies = z.tallies := by
  have hband : (Zone.bandProcedure { z with cfg := cfg, inUse := true }).inUse = true
      ∧ (Zone.bandProcedure { z with cfg := cfg, inUse := true }).tallies = z.tallies := by
    unfold Zone.bandProcedure
    dsimp only
    rw [Zone.raiseIf_eq, Zone.raiseIf_eq]
    exact ⟨rfl, rfl⟩
  exact ⟨(Zone.demandChange_inputs _ _).air.inUse.trans hband.1, (Zone.demandChange_inputs _ _).tallies.trans hband.2⟩

/-- A zone configured (R30). -/
theorem State.configure_keeps {z : Nat} (hz : z < 32) {cfg : ZoneParams} (hc : zoneParamsInRange cfg = true) :
    s.Keeps ⟨[], B, L⟩ ⟨[], B, L⟩ (s.changeZone z ((s.zone z).configured cfg)) := by
  obtain ⟨hinUse, htallies⟩ := (s.zone z).configured_kept cfg
  have hsound := (s.zone z).configured_sound hc
  exact State.changeZone_keeps_inUse hs hz hsound hinUse htallies fun k =>
    k.setZone hs hz (hsound.legal (hs.zone z)) ((s.zone z).configured_names cfg)

theorem State.shed_keeps {z : Nat} (hz : z < 32) (hinUse : (s.zone z).inUse = true) (flag : Bool) :
    s.Keeps ⟨[], B, L⟩ ⟨[], B, L⟩ (s.changeZone z { s.zone z with hostShed := flag }) := by
  have hsound := (s.zone z).setShed_sound flag
  exact State.changeZone_keeps_inUse hs hz hsound hinUse rfl fun k =>
    k.setZone hs hz (hsound.legal (hs.zone z)) ⟨rfl, rfl⟩

omit hs in
/-- What ZONE_SET asking for FREE finds when it is not refused (R31). -/
theorem State.zoneNamed_eq_false {z : Nat} (h : s.zoneNamed z = false) :
    (∀ b, b < 2048 → (s.bay b).cls ≠ .retired → (s.bay b).zone ≠ z) ∧ (s.zone z).slots = [] ∧ (s.zone z).stages = []
      ∧ ∀ i, i < 32 → (s.sign i).zones.getLsbD z = false := by
  simp only [State.zoneNamed, Bool.or_eq_false_iff, List.any_eq_false, Bool.not_eq_false', List.isEmpty_iff,
    Bool.and_eq_true, decide_eq_true_eq, signNumbers, List.mem_range, Bool.not_eq_true] at h
  obtain ⟨⟨⟨hbays, hslots⟩, hstages⟩, hsigns⟩ := h
  refine ⟨fun b hb hcls hzone => ?_, hslots, hstages, hsigns⟩
  exact hbays (b, s.bay b) (Table.mem_of_get_ne fun heq => hcls (congrArg Bay.cls heq)) ⟨hcls, hzone⟩

omit hs in
theorem Zone.powerOn_sequencer : Zone.powerOn.SequencerLegal := by decide

omit hs in
theorem Zone.powerOn_figures : Zone.powerOn.FiguresExact := by
  simp [Zone.FiguresExact, Zone.powerOn, defaultParams, Zone.N,
    computedTarget, Tallies.zero, bandFloorOf]

omit hs in
theorem Zone.freed_sound (z : Zone) : z.Sound z.freed := by
  refine ⟨fun h => ?_, fun _ _ => Zone.powerOn_sequencer, fun _ => Zone.powerOn_figures⟩
  obtain ⟨-, -, -, -, -, -, -, -, -, hpending⟩ := h
  obtain ⟨h1, h2, h3, h4, h5, h6, h7, h8, h9, -⟩ := Zone.powerOn_legal
  exact ⟨h1, h2, h3, h4, h5, h6, h7, h8, h9, hpending⟩

/-- A zone that nothing names made FREE (R31). -/
theorem State.free_keeps {z : Nat} (hz : z < 32) (hnamed : s.zoneNamed z = false) :
    s.Keeps ⟨[], B, L⟩ ⟨[], B, L⟩ (s.changeZone z (s.zone z).freed) := by
  obtain ⟨hbays, hslots, hstages, hsigns⟩ := State.zoneNamed_eq_false hnamed
  have hsound := (s.zone z).freed_sound
  refine State.changeZone_keeps B L hs hz hsound
    (fun k => k.setZone hs hz (hsound.legal (hs.zone z)) ⟨by rw [hslots]; rfl, by rw [hstages]; rfl⟩)
    (fun k i hi hfree => ?_) fun _ _ => (hs.tallyOf_none hbays).symm
  by_cases heq : i = z
  · subst heq
    rw [State.zone_setZone_self]
    exact ⟨rfl, hbays, hsigns⟩
  · rw [State.zone_setZone, if_neg heq] at hfree ⊢
    exact k i hi hfree

theorem State.floor_keeps {z f : Nat} (hz : z < 32) (hf : f ≤ 4) (hinUse : (s.zone z).inUse = true) :
    s.Keeps ⟨[], B, L⟩ ⟨[], B, L⟩ (s.putZone z ((s.zone z).floored f)) := by
  have hinputs := Zone.demandChange_inputs { s.zone z with hostFloor := f } false
  have hruns := Zone.demandChange_runs { s.zone z with hostFloor := f } false
  have hnames : (s.zone z).SameNames ((s.zone z).floored f) := ⟨congrArg _ hinputs.air.slots, hruns.names⟩
  exact State.putZone_keeps hs hz ⟨(s.zone z).floored_sound hf, hnames, hinputs.air.inUse,
    hinputs.air.shed, hinputs.tallies, fun hbare => Bool.noConfusion (hinUse.symm.trans hbare.inUse)⟩

theorem State.clearMembers_keeps {E : Unsettled} {n : Nat} (c : EventSet) : s.Keeps E E (s.clearMembers n c) := by
  have hsubset : ∀ kinds m : EventSet, onlyKindsOf kinds m = true → onlyKindsOf kinds (m &&& ~~~c) = true := fun kinds m h => by
    simp only [onlyKindsOf, decide_eq_true_eq] at h ⊢
    have hassoc : m &&& ~~~c &&& ~~~kinds = m &&& ~~~kinds &&& ~~~c := by
      rw [BitVec.and_assoc, BitVec.and_comm (~~~c), ← BitVec.and_assoc]
    rw [hassoc, h, BitVec.zero_and]
  unfold State.clearMembers
  split
  · rename_i hn
    have hsound := (s.zone n).setPending_sound (hsubset zoneKinds (s.zone n).pending)
    refine (s.setZone_handOver n { s.zone n with pending := (s.zone n).pending &&& ~~~c }
      ⟨rfl, rfl, rfl, rfl, rfl, rfl, rfl, rfl, rfl⟩).keeps hs (hs.setZone hn (hsound.legal (hs.zone n))) (fun i _ => ?_) E
    rw [State.zone_setZone]
    split
    · rename_i heq
      rw [heq]
      refine ⟨hsound, ⟨rfl, rfl⟩, rfl, rfl, rfl, fun h => ?_⟩
      unfold Zone.Bare at h ⊢
      exact congrArg (fun x : Zone => { x with pending := (s.zone n).pending &&& ~~~c }) h
    · exact .refl _
  · exact .aside hs (hs.setSitePending (hsubset siteKinds s.sitePending hs.sitePending)) rfl rfl rfl rfl rfl E

end

end Sys2Proof.Machine
end

section
/-! SUPPORT. What every command keeps, part twelve: NODE_BIND, NODE_RETIRE and SIGN_SET. -/

namespace Sys2Proof.Machine

section
variable {s : State} {B L : Nat → Prop} (hs : s.Legal)
include hs

/-! ## A node record with another binding -/

omit hs in
/-- Another binding is sound when no slot, stage or sign names the node, and no other node binds its row or entrance. -/
theorem State.BindingsSound.rebind (h : s.BindingsSound) (hs : s.Legal) {id : NodeId} {n : Node} (ht : (s.setNode id n).Legal)
    (slots : ∀ z, z < 32 → ∀ g ∈ (s.zone z).slots, g.node.key ≠ id.key)
    (stages : ∀ z, z < 32 → ∀ g ∈ (s.zone z).stages, g.node.key ≠ id.key)
    (signs : ∀ i, i < 32 → ∀ j ∈ (s.sign i).node, j.key ≠ id.key)
    (rows : ∀ r j, n.service.rowBinding.map (·.1) = some r → (s.node j).service.rowBinding.map (·.1) = some r →
      j.key = id.key)
    (entrances : ∀ e j, n.service.answer.map (·.1) = some e → (s.node j).service.answer.map (·.1) = some e →
      j.key = id.key) : (s.setNode id n).BindingsSound := by
  have hother : ∀ j : NodeId, j.key ≠ id.key → (s.setNode id n).node j = s.node j := fun j hj => by
    rw [State.node_setNode, if_neg hj]
  have honce : ∀ {β : Type} (f : Service → Option β),
      (∀ j k r, f (s.node (nodeIdOf j)).service = some r → f (s.node (nodeIdOf k)).service = some r → j = k) →
      (∀ r j, f n.service = some r → f (s.node j).service = some r → j.key = id.key) →
      ∀ j k r, f ((s.setNode id n).node (nodeIdOf j)).service = some r →
        f ((s.setNode id n).node (nodeIdOf k)).service = some r → j = k := fun f hold hnew j k r hj hk => by
    rw [State.node_setNode, nodeIdOf_key] at hj hk
    by_cases hji : j = id.key <;> by_cases hki : k = id.key
    · exact hji.trans hki.symm
    · rw [if_pos hji] at hj
      rw [if_neg hki] at hk
      exact absurd ((nodeIdOf_key k).symm.trans (hnew r _ hj hk)) hki
    · rw [if_neg hji] at hj
      rw [if_pos hki] at hk
      exact absurd ((nodeIdOf_key j).symm.trans (hnew r _ hk hj)) hji
    · rw [if_neg hji] at hj
      rw [if_neg hki] at hk
      exact hold j k r hj hk
  refine { h with slots := fun z hz g hg => ?_, stages := fun z hz g hg => ?_, signs := fun i hi j hj => ?_, rowsOnce := ?_,
                  entrancesOnce := ?_ }
  · rw [hother _ (slots z hz g hg)]
    exact h.slots z hz g hg
  · rw [hother _ (stages z hz g hg)]
    exact h.stages z hz g hg
  · rw [hother _ (signs i hi j hj)]
    exact h.signs i hi j hj
  · exact (ht.nodup_bindings (fun v => v.rowBinding.map (·.1)) rfl).mpr
      (honce (fun v => v.rowBinding.map (·.1)) ((hs.nodup_bindings (fun v => v.rowBinding.map (·.1)) rfl).mp h.rowsOnce) rows)
  · exact (ht.nodup_bindings (fun v => v.answer.map (·.1)) rfl).mpr
      (honce (fun v => v.answer.map (·.1)) ((hs.nodup_bindings (fun v => v.answer.map (·.1)) rfl).mp h.entrancesOnce)
        entrances)

/-- A node record written with another binding, its line left to follow. -/
theorem State.setNode_keeps_rebound {id : NodeId} {n : Node} (hk : id.key < 256 ∧ id.key % 64 ≠ 0) (hn : n.Legal)
    (bindings : s.BindingsSound → (s.setNode id n).BindingsSound) {Q : Nat → Prop}
    (hQ : ∀ b, ¬ Q b → ¬ B b ∧ ¬ ((s.node id).rowOf b ∧ (s.node id).state = .live))
    (hL : ∀ l, ¬ L l → ∀ a, a ≤ 63 → (⟨l, a⟩ : NodeId).key ≠ id.key) : s.Keeps ⟨[], B, L⟩ ⟨[], Q, L⟩ (s.setNode id n) where
  legal := hs.setNode hk hn
  tallies := fun k => k
  dark := fun k => k.of_watched rfl fun b hb => by
    obtain ⟨hB, hnot⟩ := hQ b hb
    refine ⟨hB, fun ⟨i, r, c, g, hi, hlive, hscan, hservice, hrow, hlt⟩ => ?_⟩
    have hne : i.key ≠ id.key := fun heq => by
      rw [node_of_key heq] at hlive hservice
      exact hnot ⟨⟨r, c, g, hservice, hrow⟩, hlive⟩
    have hnode : (s.setNode id n).node i = s.node i := by rw [State.node_setNode, if_neg hne]
    exact ⟨i, r, c, g, hi, by rwa [hnode], hscan, by rwa [hnode], hrow, hlt⟩
  sequencers := fun k => k
  figures := fun k => k
  bindings := bindings
  free := fun k => k.of_same rfl (fun _ => rfl) fun _ _ hfree => ⟨hfree, fun h => h⟩
  lines := fun k l hl hp => by
    have hnode : ∀ a, a ≤ 63 → (s.setNode id n).node ⟨l, a⟩ = s.node ⟨l, a⟩ := fun a ha => by
      rw [State.node_setNode, if_neg (hL l hp a ha)]
    obtain ⟨hidle, hvisits⟩ := k l hl hp
    refine ⟨hidle.trans (forall_congr' fun a => forall_congr' fun _ => forall_congr' fun ha => by rw [hnode a ha]),
      fun v hv hcurrent => ?_⟩
    obtain ⟨-, -, -, hvisit, -⟩ := hs.line l
    rw [hnode v.address (hvisit v hv).2]
    exact hvisits v hv hcurrent

/-- A line record written that is still to follow its nodes. -/
theorem State.setLine_keeps_following {l : Nat} {x : Line} (hl : l < 4) (hx : x.Legal) (hL : L l)
    (scanning : (s.line l).state = .scanning → x.state = .scanning ∨ ∀ i : NodeId, i.Exists → i.line = l →
      (s.node i).state ≠ .live) : s.Keeps ⟨[], B, L⟩ ⟨[], B, L⟩ (s.setLine l x) where
  legal := hs.setLine hl hx
  tallies := fun k => k
  dark := fun k => k.of_watched rfl fun b hb => ⟨hb, fun ⟨i, r, c, g, hi, hlive, hscan, hservice, hrow, hlt⟩ => by
    refine ⟨i, r, c, g, hi, hlive, ?_, hservice, hrow, hlt⟩
    rw [State.line_setLine]
    split
    · rename_i heq
      exact (scanning (heq ▸ hscan)).resolve_right fun hnone => hnone i hi heq hlive
    · exact hscan⟩
  sequencers := fun k => k
  figures := fun k => k
  bindings := fun k => { k with }
  free := fun k => k.of_same rfl (fun _ => rfl) fun _ _ hfree => ⟨hfree, fun h => h⟩
  lines := fun k i hi hp => by
    have hne : i ≠ l := fun heq => hp (heq ▸ hL)
    rw [State.line_setLine, if_neg hne]
    exact k i hi hp

omit hs in
theorem NodeId.line_of_key {i j : NodeId} (hi : i.address ≤ 63) (hj : j.address ≤ 63) (h : i.key = j.key) :
    i.line = j.line := by
  unfold NodeId.key at h
  omega

/-! ## NODE_BIND (R54) -/

omit hs in
/-- A binding that NODE_BIND asks for, within its ranges (R54). -/
theorem serviceOf_legal {k b1 b2 : Nat} {v : Service} (h : serviceOf k b1 b2 = some v) :
    v.legal = true ∧ v ≠ .none ∧ v.answering = false := by
  rw [serviceOf_eq] at h
  split at h
  · rename_i hrow
    cases h
    exact ⟨by simp [Service.legal, hrow], Service.noConfusion, rfl⟩
  · split at h
    · rename_i hentry
      cases h
      exact ⟨by simp [Service.legal, Answer.legal, hentry], Service.noConfusion, rfl⟩
    · repeat' split at h
      all_goals cases h
      all_goals exact ⟨rfl, Service.noConfusion, rfl⟩

omit hs in
theorem State.withLights_same (s : State) (v : Service) : (s.withLights v).legal = v.legal
    ∧ (s.withLights v).answering = v.answering ∧ (s.withLights v).kind = v.kind
    ∧ (s.withLights v).rowBinding = v.rowBinding ∧ (s.withLights v).answer = v.answer := by
  cases v <;> exact ⟨rfl, rfl, rfl, rfl, rfl⟩

omit hs in
theorem Line.begun_state (x : Line) : x.begun.state ≠ .idle ∧ x.begun.visit = x.visit
    ∧ (x.state = .scanning → x.begun.state = .scanning) := by
  rw [Line.begun_eq]
  split
  · exact ⟨LineState.noConfusion, rfl, fun _ => rfl⟩
  · rename_i h
    exact ⟨h, rfl, fun h => h⟩

omit hs in
theorem Line.begun_legal {x : Line} (h : x.Legal) : x.begun.Legal := by
  rw [Line.begun_eq]
  split
  · rename_i hidle
    obtain ⟨-, -, hprobe, hvisit, hde, hfault, -, -⟩ := h
    exact ⟨Nat.zero_le _, Nat.succ_pos _, hprobe, hvisit, hde, .inr (hfault.resolve_left fun hf => by simp [hidle] at hf),
      .inl rfl, LineState.noConfusion⟩
  · exact h

theorem State.bind_keeps {id : NodeId} {k b1 b2 : Nat} {v : Service} (hid : id.Exists) (hv : serviceOf k b1 b2 = some v)
    (hoff : (s.node id).state = .off) (hfree : s.bindingTaken v = false) :
    s.Keeps ⟨[], B, fun _ => False⟩ ⟨[], B, fun _ => False⟩
      ((s.setNode id (boundNode (s.withLights v))).setLine id.line (s.line id.line).begun) := by
  obtain ⟨hlegal, hsome, hanswer⟩ := serviceOf_legal hv
  obtain ⟨hsame, hanswering, hkind, hrow, hentrance⟩ := s.withLights_same v
  have hkey := (id.exists_iff (Nat.lt_succ_of_le hid.2.2)).mp hid
  have hrecord : (boundNode (s.withLights v)).Legal := by
    refine ⟨NodeState.noConfusion, fun _ hnone => hsome (Service.kind_eq_none.mp
      (hkind.symm.trans (Service.kind_eq_none.mpr hnone))), Nat.zero_le _, fun _ => Nat.succ_pos _,
      NodeState.noConfusion, hsame.trans hlegal, fun _ => rfl⟩
  have hnone : (s.node id).service = .none := (hs.node id).off_iff_service.mp hoff
  have hne : ∀ {j : NodeId} {w : Service}, (s.node j).service = w → w ≠ .none → j.key ≠ id.key := fun hj hw heq =>
    hw (hj.symm.trans ((congrArg Node.service (node_of_key heq)).trans hnone))
  have htaken : ∀ j, (s.node j).service.sharesBinding v ≠ true := fun j hj =>
    Bool.noConfusion (hfree.symm.trans ((hs.bindingTaken_iff v).mpr ⟨j, hj⟩))
  have hbind : s.Keeps ⟨[], B, (· = id.line)⟩ ⟨[], B, (· = id.line)⟩ (s.setNode id (boundNode (s.withLights v))) := by
    refine State.setNode_keeps_rebound hs hkey hrecord (fun hsound => ?_) (fun b hb => ⟨hb, fun h => ?_⟩) fun l hl a ha heq => ?_
    · refine hsound.rebind hs (hs.setNode hkey hrecord) (fun z hz g hg => hne (hsound.slots z hz g hg) Service.noConfusion)
        (fun z hz g hg => hne (hsound.stages z hz g hg) Service.noConfusion)
        (fun i hi j hj => hne (hsound.signs i hi j hj) Service.noConfusion) (fun r j hr hj => ?_) fun e j he hj => ?_
      · rw [show (boundNode (s.withLights v)).service.rowBinding = v.rowBinding from hrow] at hr
        obtain ⟨⟨r', n'⟩, hvr, rfl⟩ := Option.map_eq_some_iff.mp hr
        obtain ⟨⟨r'', n''⟩, hjr, heq⟩ := Option.map_eq_some_iff.mp hj
        obtain ⟨g, rfl⟩ := Service.rowBinding_eq_some.mp hvr
        obtain ⟨g', hg'⟩ := Service.rowBinding_eq_some.mp hjr
        exact absurd (Service.sharesBinding_row.mpr ⟨n'', g', hg'.trans (by rw [show r'' = r' from heq])⟩) (htaken j)
      · rw [show (boundNode (s.withLights v)).service.answer = v.answer from hentrance] at he
        obtain ⟨⟨e', a'⟩, hve, rfl⟩ := Option.map_eq_some_iff.mp he
        obtain ⟨⟨e'', a''⟩, hje, heq⟩ := Option.map_eq_some_iff.mp hj
        rw [Service.answer_eq_some] at hve hje
        subst hve
        exact absurd (Service.sharesBinding_entry.mpr ⟨a'', hje.trans (by rw [show e'' = e' from heq])⟩) (htaken j)
    · exact NodeState.noConfusion (hoff.symm.trans h.2)
    · exact hl (NodeId.line_of_key ha hid.2.2 heq)
  have hchain := hbind.trans fun ht => State.setLine_keeps_following ht (x := (s.line id.line).begun) hid.1
    (Line.begun_legal (hs.line id.line)) rfl fun hscan => .inl ((s.line id.line).begun_state.2.2 hscan)
  refine { hchain with lines := fun k l hl _ => ?_ }
  obtain ⟨hidle, hvisits⟩ := k l hl fun h => h
  have hnode : ∀ j : NodeId, ((s.setNode id (boundNode (s.withLights v))).setLine id.line (s.line id.line).begun).node j
      = if j.key = id.key then boundNode (s.withLights v) else s.node j := fun j => s.node_setNode id _ j
  obtain ⟨hbegun, hvisit, -⟩ := (s.line id.line).begun_state
  by_cases heq : l = id.line
  · subst heq
    rw [State.line_setLine_self, hvisit]
    refine ⟨⟨fun h => absurd h hbegun, fun h => ?_⟩, fun w hw hcurrent => ?_⟩
    · have hoff' := h id.address hid.2.1 hid.2.2
      rw [hnode, if_pos rfl] at hoff'
      cases hoff'
    · rw [hnode]
      split
      · exact NodeState.noConfusion
      · exact hvisits w hw hcurrent
  · have hother : ∀ a, a ≤ 63 → (⟨l, a⟩ : NodeId).key ≠ id.key := fun a ha hk => heq (NodeId.line_of_key ha hid.2.2 hk)
    rw [State.line_setLine, if_neg heq]
    refine ⟨hidle.trans (forall_congr' fun a => forall_congr' fun _ => forall_congr' fun ha => ?_), fun w hw hcurrent => ?_⟩
    · rw [hnode, if_neg (hother a ha)]
    · obtain ⟨-, -, -, hlegal, -⟩ := hs.line l
      rw [hnode, if_neg (hother _ (hlegal w hw).2)]
      exact hvisits w hw hcurrent

end

end Sys2Proof.Machine
end

section
/-! SUPPORT. What every command keeps, part thirteen: NODE_RETIRE and SIGN_SET. -/

namespace Sys2Proof.Machine

section
variable {s : State} {B L : Nat → Prop} (hs : s.Legal)
include hs

/-! ## NODE_RETIRE (R55) -/

/-- Some record of a line is not OFF (R64). -/
theorem State.Legal.lineHasNodes_iff (l : Nat) :
    s.lineHasNodes l = true ↔ ∃ a, 1 ≤ a ∧ a ≤ 63 ∧ (s.node ⟨l, a⟩).state ≠ .off := by
  simp only [State.lineHasNodes, List.any_eq_true, Bool.and_eq_true, decide_eq_true_eq]
  constructor
  · rintro ⟨⟨k, n⟩, hm, rfl, hon⟩
    have hid := hs.nodeIdOf_exists hm
    refine ⟨k % 64, hid.2.1, hid.2.2, ?_⟩
    have hn : s.node (nodeIdOf k) = n := by
      rw [State.node, nodeIdOf_key]
      exact Table.get_of_mem _ _ _ hs.nodesWf k n hm
    exact fun hoff => hon (hn ▸ hoff)
  · rintro ⟨a, ha, ha', hon⟩
    refine ⟨_, hs.mem_nodes hon, ?_, hon⟩
    simp only [NodeId.key]
    omega

omit hs in
/-- The node record OFF and its row DARK: every other node's record is as it was but for its mark and light set. -/
theorem State.withoutNode_frame (s : State) (id : NodeId) :
    (s.withoutNode id).lines = s.lines ∧ ((s.withoutNode id).node id).state = .off
      ∧ ∀ j : NodeId, j.key ≠ id.key → (s.node j).SameLink ((s.withoutNode id).node j) := by
  have hset : ∀ j : NodeId, j.key ≠ id.key → (s.setNode id Node.powerOn).node j = s.node j := fun j hj => by
    rw [State.node_setNode, if_neg hj]
  have hoff : ((s.setNode id Node.powerOn).node id).state = .off := by
    rw [State.node_setNode_self]
    rfl
  unfold State.withoutNode
  split
  · rename_i r n g _
    have hframe : (s.setNode id Node.powerOn).CensusFrame ((s.setNode id Node.powerOn).darkenRow r) :=
      ((s.setNode id Node.powerOn).censusChange_frame _).1
    refine ⟨hframe.lines, (hframe.nodes id).state.trans hoff, fun j hj => ?_⟩
    exact hset j hj ▸ hframe.nodes j
  all_goals exact ⟨rfl, hoff, fun j hj => by rw [hset j hj]; exact .refl _⟩

/-- What NODE_RETIRE finds when it is not refused: nothing names the node (R55). -/
theorem State.Legal.nodeNamed_eq_false {id : NodeId} (hid : id.Exists) (h : s.nodeNamed id = false) :
    (∀ z, z < 32 → ∀ g ∈ (s.zone z).slots, g.node.key ≠ id.key)
      ∧ (∀ z, z < 32 → ∀ g ∈ (s.zone z).stages, g.node.key ≠ id.key)
      ∧ ∀ i, i < 32 → ∀ j ∈ (s.sign i).node, j.key ≠ id.key := by
  simp only [State.nodeNamed, Zone.hasSlotOf, Zone.hasStageOf, Bool.or_eq_false_iff, List.any_eq_false, zoneNumbers,
    signNumbers, List.mem_range, Bool.or_eq_true, not_or, List.any_eq_true, decide_eq_true_eq] at h
  obtain ⟨hzones, hsigns⟩ := h
  refine ⟨fun z hz g hg => ?_, fun z hz g hg => ?_, fun i hi j hj => ?_⟩
  · obtain ⟨hnode, -⟩ := (hs.zone z).slots.2 g hg
    exact NodeId.key_ne hnode hid fun heq => (hzones z hz).1 ⟨g, hg, heq⟩
  · obtain ⟨-, -, -, -, -, -, -, -, hnodes, -⟩ := hs.zone z
    exact NodeId.key_ne (hnodes g hg) hid fun heq => (hzones z hz).2 ⟨g, hg, heq⟩
  · obtain ⟨hnode, -⟩ := hs.sign i
    refine NodeId.key_ne (hnode j hj) hid fun heq => hsigns i hi ?_
    rw [← heq]
    exact hj

/-- The node record OFF and its row DARK, its line still to follow. -/
theorem State.withoutNode_keeps {id : NodeId} (hid : id.Exists) (hnamed : s.nodeNamed id = false) :
    s.Keeps ⟨[], B, (· = id.line)⟩ ⟨[], B, (· = id.line)⟩ (s.withoutNode id) := by
  obtain ⟨hslots, hstages, hsigns⟩ := hs.nodeNamed_eq_false hid hnamed
  have hkey := (id.exists_iff (Nat.lt_succ_of_le hid.2.2)).mp hid
  have hoff : s.Keeps ⟨[], B, (· = id.line)⟩ ⟨[], (s.node id).leaves B, (· = id.line)⟩ (s.setNode id Node.powerOn) :=
    State.setNode_keeps_rebound hs hkey Node.powerOn_legal (fun hsound => hsound.rebind hs
      (hs.setNode hkey Node.powerOn_legal) hslots hstages hsigns (fun _ _ h => by cases h) fun _ _ h => by cases h)
      (fun b hnot => ⟨fun hB => hnot (.inl hB), fun h => hnot (.inr h.1)⟩)
      fun l hl a ha heq => hl (NodeId.line_of_key ha hid.2.2 heq)
  unfold State.withoutNode
  cases hkind : (s.node id).service with
  | row r n g =>
    refine .of_settled (hoff.trans fun ht => State.darkenRow_keeps ht r)
      fun b hb => hb.1.resolve_right fun ⟨r', n', g', hr, hrow⟩ => ?_
    rw [hkind] at hr
    cases hr
    exact hb.2 hrow
  | none | gas | fan | sign | entry =>
    refine .of_settled hoff fun b hb => hb.resolve_right fun ⟨r, n, g, hr, _⟩ => ?_
    rw [hkind] at hr
    cases hr

omit hs in
theorem Line.retiring_eq (a : Nat) (x : Line) : ∀ v ∈ (x.retiring a).visit, v.retired = false → v ∈ x.visit ∧ v.address ≠ a := by
  intro v hv hcurrent
  obtain ⟨w, hw, hwv⟩ := Option.map_eq_some_iff.mp hv
  split at hwv
  · rw [← hwv] at hcurrent
    cases hcurrent
  · rename_i hne
    exact hwv ▸ ⟨hw, hne⟩

omit hs in
theorem Line.retiring_legal {x : Line} (h : x.Legal) (a : Nat) : (x.retiring a).Legal := by
  obtain ⟨h1, h2, h3, hvisit, hde, h6, h7, h8⟩ := h
  refine ⟨h1, h2, h3, fun v hv => ?_, fun hd => ?_, h6, h7.imp_right fun ⟨hn, hm⟩ => ⟨?_, hm⟩, h8⟩
  · obtain ⟨w, hw, rfl⟩ := Option.map_eq_some_iff.mp hv
    have hlegal := hvisit w hw
    split <;> exact hlegal
  · rw [Line.retiring, Option.isSome_map]
    exact hde hd
  · rw [Line.retiring, hn]
    rfl

omit hs in
theorem Line.stopped_legal {x : Line} (h : x.Legal) : x.stopped.Legal := by
  obtain ⟨hscan, -⟩ := h
  exact ⟨hscan, Nat.succ_pos _, fun n hn => (Option.not_mem_none n hn).elim, fun v hv => (Option.not_mem_none v hv).elim,
    Bool.noConfusion, .inr ⟨rfl, rfl⟩, .inr ⟨rfl, rfl⟩, LineState.noConfusion⟩

/-- A bound node that nothing names retired (R55, R64). -/
theorem State.retire_keeps {id : NodeId} (hid : id.Exists) (hon : (s.node id).state ≠ .off) (hnamed : s.nodeNamed id = false) :
    s.Keeps ⟨[], B, fun _ => False⟩ ⟨[], B, fun _ => False⟩
      (((s.withoutNode id).setLine id.line ((s.line id.line).retiring id.address)).reviewLine id.line) := by
  obtain ⟨hlines, hoff, hlinks⟩ := s.withoutNode_frame id
  let u := (s.withoutNode id).setLine id.line ((s.line id.line).retiring id.address)
  have hline : (s.withoutNode id).line id.line = s.line id.line := by rw [State.line, State.line, hlines]
  have hchain : s.Keeps ⟨[], B, (· = id.line)⟩ ⟨[], B, (· = id.line)⟩ u :=
    (State.withoutNode_keeps hs hid hnamed).trans fun ht => State.setLine_keeps_following ht hid.1
      (Line.retiring_legal (hs.line id.line) _) rfl fun hscan => .inl (hline ▸ hscan)
  have hunode : ∀ j, u.node j = (s.withoutNode id).node j := fun _ => rfl
  have hkept : ∀ j : NodeId, j.key ≠ id.key → (u.node j).state = (s.node j).state := fun j hj => (hlinks j hj).state
  have hother : ∀ l, l ≠ id.line → ∀ a, a ≤ 63 → (⟨l, a⟩ : NodeId).key ≠ id.key :=
    fun l hl a ha hk => hl (NodeId.line_of_key ha hid.2.2 hk)
  have hothers : s.LinesBut (fun _ => False) → ∀ t : State, (∀ j, t.node j = u.node j) →
      (∀ l, l ≠ id.line → t.line l = s.line l) → ∀ l, l < 4 → l ≠ id.line →
      ((t.line l).state = .idle ↔ ∀ a, 1 ≤ a → a ≤ 63 → (t.node ⟨l, a⟩).state = .off)
        ∧ ∀ v ∈ (t.line l).visit, v.retired = false → (t.node ⟨l, v.address⟩).state ≠ .off := by
    intro k t hnode hl l hlt hne
    obtain ⟨hidle, hvisits⟩ := k l hlt fun h => h
    rw [hl l hne]
    refine ⟨hidle.trans (forall_congr' fun a => forall_congr' fun _ => forall_congr' fun ha => ?_), fun v hv hcurrent => ?_⟩
    · rw [hnode, hkept _ (hother l hne a ha)]
    · obtain ⟨-, -, -, hlegal, -⟩ := hs.line l
      rw [hnode, hkept _ (hother l hne _ (hlegal v hv).2)]
      exact hvisits v hv hcurrent
  have huline : ∀ l, l ≠ id.line → u.line l = s.line l := fun l hl => by
    rw [State.line_setLine, if_neg hl, State.line, State.line, hlines]
  have hself : u.line id.line = (s.line id.line).retiring id.address := State.line_setLine_self _ _ _
  unfold State.reviewLine
  by_cases hmore : u.lineHasNodes id.line = true
  · rw [if_pos hmore]
    refine { hchain with lines := fun k l hlt _ => ?_ }
    by_cases heq : l = id.line
    · subst heq
      obtain ⟨hidle, hvisits⟩ := k id.line hlt fun h => h
      obtain ⟨a, ha, ha', hlive⟩ := (hchain.legal.lineHasNodes_iff id.line).mp hmore
      rw [hself]
      refine ⟨⟨fun h => absurd (hidle.mp h id.address hid.2.1 hid.2.2) hon, fun h => absurd (h a ha ha') hlive⟩,
        fun v hv hcurrent => ?_⟩
      obtain ⟨hvs, hne⟩ := Line.retiring_eq _ _ v hv hcurrent
      obtain ⟨-, -, -, hlegal, -⟩ := hs.line id.line
      have hvid : NodeId.Exists ⟨id.line, v.address⟩ := ⟨hlt, hlegal v hvs⟩
      rw [hkept _ (NodeId.key_ne hvid hid fun h => hne (congrArg NodeId.address h))]
      exact hvisits v hvs hcurrent
    · exact hothers k u (fun _ => rfl) huline l hlt heq
  · rw [if_neg hmore]
    have hnone : ∀ a, 1 ≤ a → a ≤ 63 → (u.node ⟨id.line, a⟩).state = .off := fun a ha ha' => by
      refine Classical.byContradiction fun hlive => ?_
      exact hmore ((hchain.legal.lineHasNodes_iff id.line).mpr ⟨a, ha, ha', hlive⟩)
    have hstopped := hchain.trans fun ht => State.setLine_keeps_following ht (x := (u.line id.line).stopped) hid.1
      (Line.stopped_legal (ht.line id.line)) rfl fun _ => .inr fun i hi hil hlive => by
        have hioff := hnone i.address hi.2.1 hi.2.2
        rw [← hil] at hioff
        exact NodeState.noConfusion (hlive.symm.trans hioff)
    refine { hstopped with lines := fun k l hlt _ => ?_ }
    by_cases heq : l = id.line
    · subst heq
      rw [State.line_setLine_self]
      exact ⟨⟨fun _ => hnone, fun _ => rfl⟩, fun v hv => (Option.not_mem_none v hv).elim⟩
    · refine hothers k (u.setLine id.line (u.line id.line).stopped) (fun _ => rfl) (fun i hi => ?_) l hlt heq
      rw [State.line_setLine, if_neg hi]
      exact huline i hi

/-! ## SIGN_SET (R155) -/

/-- A sign record written whole (R154, R155). -/
theorem State.writeSign_keeps {i : Nat} (hi : i < 32) {g : Sign} (hnode : ∀ id ∈ g.node, id.Exists)
    (hlen : g.text.length ≤ 16) (htext : ∀ b ∈ g.text, textChar b = true)
    (hsign : ∀ id ∈ g.node, (s.node id).service = .sign) (huse : ∀ z, z < 32 → g.zones.getLsbD z = true → (s.zone z).inUse = true)
    (honce : ∀ id ∈ g.node, ∀ j, j < 32 → j ≠ i → (s.sign j).node ≠ some id) :
    s.Keeps ⟨[], B, L⟩ ⟨[], B, L⟩ (s.writeSign i g) := by
  let x : Sign := { g with value := s.signCount g.zones g.filter }
  have hself : (s.setSign i x).sign i = x := State.sign_setSign_self _ _ _
  have hother : ∀ j, j ≠ i → (s.setSign i x).sign j = s.sign j := fun j hj => by rw [State.sign_setSign, if_neg hj]
  have hset : s.Keeps ⟨[], B, L⟩ ⟨[], B, L⟩ (s.setSign i x) := by
    refine ⟨hs.setSign hi ⟨hnode, hlen, htext, Nat.min_le_left _ _⟩, fun k => k, fun k => k, fun k => k, fun k => k, fun k => ?_,
      fun k z hz hfree => ?_, fun k => k⟩
    · refine { k with signs := fun j hj id hid => ?_, signsOnce := ?_ }
      · by_cases heq : j = i
        · rw [heq, hself] at hid
          exact hsign id hid
        · rw [hother j heq] at hid
          exact k.signs j hj id hid
      · have hold := nodup_range_filterMap_iff.mp k.signsOnce
        refine nodup_range_filterMap_iff.mpr fun j j' id hj hj' hjn hjn' => ?_
        by_cases heq : j = i <;> by_cases heq' : j' = i
        · exact heq.trans heq'.symm
        · rw [heq, hself] at hjn
          rw [hother j' heq'] at hjn'
          exact absurd hjn' (honce id hjn j' hj' heq')
        · rw [hother j heq] at hjn
          rw [heq', hself] at hjn'
          exact absurd hjn (honce id hjn' j hj heq)
        · rw [hother j heq] at hjn
          rw [hother j' heq'] at hjn'
          exact hold j j' id hj hj' hjn hjn'
    · obtain ⟨hrecord, hbays, hsigns⟩ := k z hz hfree
      refine ⟨hrecord, hbays, fun j hj => ?_⟩
      by_cases heq : j = i
      · rw [heq, hself]
        exact Bool.eq_false_iff.mpr fun hin => Bool.noConfusion ((huse z hz hin).symm.trans hfree)
      · rw [hother j heq]
        exact hsigns j hj
  have hmark : ∀ {t : State}, t.Legal → ∀ o, t.Keeps ⟨[], B, L⟩ ⟨[], B, L⟩ (t.markSignNode o) := fun ht o => by
    cases o
    · exact .refl ht _
    · exact State.markOutput_keeps ht _ _
  exact hset.trans fun ht => (hmark ht _).trans fun hu => hmark hu _

end

end Sys2Proof.Machine
end

section
/-! SUPPORT. What every command keeps, part fourteen: a commit, CLEAR, the tick and RESET. -/

namespace Sys2Proof.Machine

section
variable {s : State} {B L : Nat → Prop} (hs : s.Legal)
include hs

/-! ## A commit (R49 to R52) -/

omit hs in
theorem Bay.committed_legal {b : Bay} (h : b.Legal) {x : Entry} (hx : x.zone < 32) : (b.committed x).Legal := by
  obtain ⟨-, htimer, hruns, hhold, hretired⟩ := h
  unfold Bay.committed
  dsimp only
  split
  · rename_i hboth
    exact ⟨hx, htimer, hruns, hhold, fun _ => hretired hboth.1⟩
  · split
    · exact ⟨hx, Nat.zero_le _, .inr (.inr rfl), fun k hk => (Option.not_mem_none k hk).elim, fun _ => ⟨rfl, rfl, rfl⟩⟩
    · rename_i hnone
      exact ⟨hx, htimer, hruns, hhold, fun hr => absurd (.inr hr) hnone⟩

omit hs in
theorem Bay.committed_fields (b : Bay) (x : Entry) : (b.committed x).zone = x.zone ∧ (b.committed x).cls = x.cls
    ∧ ((b.committed x).cls ≠ .retired → (b.committed x).census ≠ .dark → b.cls ≠ .retired ∧ (b.committed x).census = b.census) := by
  unfold Bay.committed
  dsimp only
  split
  · rename_i hboth
    exact ⟨rfl, rfl, fun hr => absurd hboth.2 hr⟩
  · split
    · exact ⟨rfl, rfl, fun _ hdark => absurd rfl hdark⟩
    · rename_i hnone
      exact ⟨rfl, rfl, fun _ _ => ⟨fun hr => hnone (.inl hr), rfl⟩⟩

omit hs in
theorem Service.legal_offer {e ticket bay zone zone' : Nat} (h : (Service.entry e (.offer ticket bay zone)).legal = true)
    (hz : zone' < 32) : (Service.entry e (.offer ticket bay zone')).legal = true := by
  simp only [Service.legal, Answer.legal, Bool.and_eq_true, decide_eq_true_eq] at h ⊢
  exact ⟨h.1, h.2.1, hz⟩

omit hs in
/-- An open offer re-derived: its node binds what it bound. -/
theorem Node.reoffered_cases {moved : List (Nat × Nat)} (n : Node) : n.reoffered moved = n
    ∨ ∃ e ticket bay zone p, n.service = .entry e (.offer ticket bay zone) ∧ p ∈ moved
      ∧ n.reoffered moved = { n with service := .entry e (.offer ticket bay p.2), outputPending := true } := by
  unfold Node.reoffered
  split
  · rename_i e ticket bay zone hservice
    split
    · rename_i p hp
      split
      · exact .inl rfl
      · exact .inr ⟨e, ticket, bay, zone, p, hservice, List.mem_of_find?_eq_some hp, rfl⟩
    · exact .inl rfl
  all_goals exact .inl rfl

omit hs in
theorem Node.reoffered_kept {moved : List (Nat × Nat)} (n : Node) :
    n.SameBinding (n.reoffered moved) ∧ (n.reoffered moved).state = n.state := by
  rcases n.reoffered_cases (moved := moved) with heq | ⟨e, ticket, bay, zone, p, hservice, -, heq⟩
  · rw [heq]
    exact ⟨.refl n, rfl⟩
  · rw [heq]
    exact ⟨⟨by rw [hservice]; rfl, by rw [hservice]; rfl, by rw [hservice]; rfl⟩, rfl⟩

omit hs in
theorem Node.reoffered_legal {moved : List (Nat × Nat)} (hmoved : ∀ p ∈ moved, p.2 < 32) {n : Node} (h : n.Legal) :
    (n.reoffered moved).Legal := by
  rcases n.reoffered_cases (moved := moved) with heq | ⟨e, ticket, bay, zone, p, hservice, hp, heq⟩
  · rw [heq]
    exact h
  · obtain ⟨hoff, -, hmisses, hfew, -, hlegal, hanswer⟩ := h
    rw [hservice] at hlegal hanswer
    have hlive := hanswer rfl
    rw [heq]
    exact ⟨fun ho => NodeState.noConfusion (hlive.symm.trans ho), fun _ => Service.noConfusion, hmisses, hfew, fun _ => rfl,
      Service.legal_offer hlegal (hmoved p hp), fun _ => hlive⟩

/-- The node table changed record by record. -/
theorem State.mapNodes_keeps {f : Node → Node} (hd : f Node.powerOn = Node.powerOn) (hf : ∀ n : Node, n.Legal → (f n).Legal)
    (hb : ∀ n : Node, n.SameBinding (f n)) (hlive : ∀ n : Node, n.state = .live → (f n).state = .live)
    (E : Unsettled) : s.Keeps E E { s with nodes := Table.map Node.powerOn f s.nodes } := by
  have ht := hs.mapNodes hf
  have hnode : ∀ id, ({ s with nodes := Table.map Node.powerOn f s.nodes } : State).node id = f (s.node id) := fun id =>
    Table.get_map _ _ _ _ hs.nodesWf hd _
  have hquiet : s.Quiet { s with nodes := Table.map Node.powerOn f s.nodes } :=
    ⟨rfl, fun _ _ => .refl _, fun id => by rw [hnode]; exact hb _, fun _ => .refl _, fun _ => Iff.rfl,
      fun _ v hv _ => .inr hv⟩
  exact hquiet.keeps hs ht E (fun id h => by rw [hnode]; exact hlive _ h) fun _ h => h

/-- The open offers re-derived and the edit closed (R52). -/
theorem State.reoffer_keeps {moved : List (Nat × Nat)} (hmoved : ∀ p ∈ moved, p.2 < 32) (E : Unsettled) :
    s.Keeps E E { s with nodes := Table.map Node.powerOn (Node.reoffered moved) s.nodes, edit := none } := by
  refine (State.mapNodes_keeps hs (f := Node.reoffered moved) rfl (fun n hn => Node.reoffered_legal hmoved hn)
    (fun n => n.reoffered_kept.1) (fun n h => n.reoffered_kept.2.trans h) E).trans fun hv => ?_
  exact .aside hv (hv.setEdit fun x hx => (Option.not_mem_none x hx).elim) rfl rfl rfl rfl rfl E

theorem State.commit_keeps {e : Edit} (he : s.edit = some e) (hallowed : ∀ x ∈ e.entries, s.entryAllowed x = true) :
    s.Keeps ⟨[], B, L⟩ ⟨[], B, L⟩ (s.commit e) := by
  obtain ⟨hrow, hlen, hzones, -⟩ := hs.edit e he
  have hpair : ∀ p ∈ e.pairs, p.1 / 16 = e.row ∧ p.2 ∈ e.entries := fun p hp =>
    ⟨mem_rowBays.mp (List.of_mem_zip hp).1, (List.of_mem_zip hp).2⟩
  have hnodup : ((s.commitChanges e).map Prod.fst).Nodup := by
    have hkeys : (s.commitChanges e).map Prod.fst
        = (e.pairs.filter fun p => decide ((s.bay p.1).committed p.2 ≠ s.bay p.1)).map Prod.fst := by
      simp [State.commitChanges, Function.comp_def]
    rw [hkeys]
    have hfst : e.pairs.map Prod.fst = rowBays e.row := List.map_fst_zip (by simp [rowBays, hlen])
    exact (rowBays_nodup e.row).sublist (hfst ▸ List.filter_sublist.map Prod.fst)
  have hcensus : s.Keeps ⟨[], B, L⟩ ⟨[], B, L⟩ (s.censusChange (s.commitChanges e)) := by
    refine State.censusChange_keeps B L hs hnodup fun c hc => ?_
    obtain ⟨p, hp, rfl⟩ := List.mem_map.mp hc
    obtain ⟨hp, -⟩ := List.mem_filter.mp hp
    obtain ⟨hplace, hentry⟩ := hpair p hp
    obtain ⟨hzone, hcls, hcensus⟩ := (s.bay p.1).committed_fields p.2
    refine ⟨by omega, Bay.committed_legal (hs.bay _) (hzones _ hentry), fun hr => .inl ?_, fun hr hdark => .inr ?_⟩
    · have hok := hallowed _ hentry
      simp only [State.entryAllowed, Bool.or_eq_true, decide_eq_true_eq] at hok
      rw [hzone]
      exact hok.resolve_left fun h => hr (hcls.trans h)
    · obtain ⟨hservice, hsame⟩ := hcensus hr hdark
      exact ⟨hservice, hsame ▸ hdark⟩
  have hmoved : ∀ p ∈ s.movedBays e, p.2 < 32 := fun p hp => by
    obtain ⟨q, hq, rfl⟩ := List.mem_map.mp hp
    exact hzones _ (hpair q (List.mem_filter.mp hq).1).2
  exact hcensus.trans fun ht => (State.lightsOfRows_keeps ht _ [e.row]).trans fun hu => State.reoffer_keeps hu hmoved _

/-! ## The tick -/

omit hs in
theorem Bay.ticked_add (b : Bay) (t : Tallies) (x : Zone) :
    t.add b.ticked (b.ticked.offeredIn x) = t.add b (b.offeredIn x) := by
  obtain ⟨zone, cls, closed, census, timer, hold⟩ := b
  cases hold <;> rfl

omit hs in
theorem Bay.ticked_legal {b : Bay} (h : b.Legal) : b.ticked.Legal := by
  obtain ⟨hzone, htimer, hruns, hhold, hretired⟩ := h
  refine ⟨hzone, ?_, ?_, fun k hk => ?_, fun hr => ?_⟩
  · simp only [Bay.ticked]
    split <;> omega
  · simp only [Bay.ticked]
    rcases hruns with h | h | h
    · exact .inl h
    · exact .inr (.inl h)
    · refine .inr (.inr ?_)
      split <;> omega
  · obtain ⟨k', hk', rfl⟩ := Option.map_eq_some_iff.mp hk
    obtain ⟨⟨hticket, hentrance, htimer⟩, hcensus⟩ := hhold k' hk'
    exact ⟨⟨hticket, hentrance, Nat.le_trans (Nat.sub_le _ _) htimer⟩, hcensus⟩
  · obtain ⟨hdark, hstop, hnone⟩ := hretired hr
    refine ⟨hdark, ?_, ?_⟩
    · simp only [Bay.ticked, hdark]
      exact hstop
    · simp [Bay.ticked, hnone]

omit hs in
/-- The tallies of a zone after every bay record is changed in what no tally reads. -/
theorem State.Legal.tallyOf_mapBays {f : Bay → Bay} (hcounts : ∀ b z, (f b).countsIn z = b.countsIn z)
    (hadd : ∀ (b : Bay) (t : Tallies) (x : Zone), t.add (f b) ((f b).offeredIn x) = t.add b (b.offeredIn x)) {t : State}
    (ht : t.bays = Table.map Bay.powerOn f s.bays) {z : Nat} (inUse : (t.zone z).inUse = (s.zone z).inUse)
    (shed : (t.zone z).shed = (s.zone z).shed) : t.tallyOf z = s.tallyOf z := by
  have hlisted : ∀ e : Nat × Bay, e.2.countsIn z = true → decide (f e.2 ≠ Bay.powerOn) = true := fun e he => by
    rw [decide_eq_true_eq]
    intro heq
    have := hcounts e.2 z
    rw [heq, he] at this
    exact Bool.noConfusion this
  have hoffered : ∀ (b : Bay) , b.offeredIn (t.zone z) = b.offeredIn (s.zone z) := fun b => by
    simp only [Bay.offeredIn, inUse, shed]
  have hfilter : ((Table.map Bay.powerOn f s.bays).filter fun e => e.2.countsIn z)
      = (s.bays.filter fun e => e.2.countsIn z).map fun e => (e.1, f e.2) := by
    unfold Table.map
    rw [List.filter_filter, List.filter_map]
    refine congrArg _ (List.filter_congr fun e he => ?_)
    simp only [Function.comp_def, hcounts]
    by_cases hc : e.2.countsIn z = true
    · simp [hc, hlisted e hc]
    · simp [hc]
  rw [State.tallyOf_eq, State.tallyOf_eq, ht, hfilter, List.foldl_map]
  simp only [hoffered, hadd]

omit hs in
theorem Node.ticked_kept (n : Node) : n.SameBinding n.ticked ∧ n.ticked.state = n.state ∧ (n.Legal → n.ticked.Legal) := by
  by_cases hrow : n.service.kind = some .row
  · obtain ⟨r, k, g, hservice⟩ : ∃ r k g, n.service = .row r k g := by
      cases hv : n.service <;> rw [hv] at hrow <;> cases hrow
      exact ⟨_, _, _, rfl⟩
    rw [Node.ticked_row hservice]
    refine ⟨⟨by rw [hservice]; rfl, by rw [hservice]; rfl, by rw [hservice]; rfl⟩, rfl, fun h => ?_⟩
    obtain ⟨hoff, -, hmisses, hfew, -, hlegal, -⟩ := h
    rw [hservice] at hlegal
    refine ⟨fun ho => ?_, fun _ => Service.noConfusion, hmisses, hfew, fun _ => rfl, hlegal, Bool.noConfusion⟩
    rw [hoff ho] at hservice
    cases hservice
  · rw [Node.ticked_other hrow]
    exact ⟨.refl n, rfl, fun h => h⟩

omit hs in
theorem Line.ticked_legal {l : Line} (h : l.Legal) : l.ticked.Legal := by
  obtain ⟨h1, h2, hprobe, h4, h5, h6, h7, h8⟩ := h
  refine ⟨h1, h2, fun n hn => ?_, h4, h5, h6.imp_right fun ⟨hp, hw⟩ => ⟨by simp [Line.ticked, hp], hw⟩, h7, fun hf => ?_⟩
  · obtain ⟨k, hk, rfl⟩ := Option.map_eq_some_iff.mp hn
    exact Nat.le_trans (Nat.sub_le _ _) (hprobe k hk)
  · simpa [Line.ticked] using h8 hf

theorem State.Legal.ticked : s.ticked.Legal := by
  have hedit : ∀ e ∈ s.edit.map Edit.ticked, e.Legal := fun e he => by
    obtain ⟨k, hk, rfl⟩ := Option.map_eq_some_iff.mp he
    obtain ⟨h1, h2, h3, h4, h5⟩ := hs.edit k hk
    exact ⟨h1, h2, h3, h4, Nat.le_trans (Nat.sub_le _ _) h5⟩
  have hbays := hs.mapBays (f := Bay.ticked) fun _ h => Bay.ticked_legal h
  have hzones := hbays.mapZones (f := Zone.ticked) fun z h => z.ticked_sound.legal h
  have hnodes := hzones.mapNodes (f := Node.ticked) fun n h => n.ticked_kept.2.2 h
  have hlines := hnodes.mapLines (f := Line.ticked) fun _ h => Line.ticked_legal h
  have hedited := hlines.setEdit hedit
  exact hedited.setLink s.phase (s.ticks + 1) s.ignoring s.buffer s.out s.miso s.choices

omit hs in
theorem Zone.Bare.ticked {z : Zone} (h : z.Bare) : z.ticked.Bare := by
  unfold Zone.Bare at h
  rw [h]
  rfl

/-- A tick keeps everything: no tally, no binding and no state of a sequencer reads a timer. -/
theorem State.ticked_keeps : s.Keeps ⟨[], B, L⟩ ⟨[], B, L⟩ s.ticked := by
  have hzone : ∀ z, s.ticked.zone z = (s.zone z).ticked := fun z => Table.get_map _ _ _ _ hs.zonesWf rfl _
  have hnode : ∀ id, s.ticked.node id = (s.node id).ticked := fun id => Table.get_map _ _ _ _ hs.nodesWf rfl _
  have hline : ∀ l, s.ticked.line l = (s.line l).ticked := fun l => Table.get_map _ _ _ _ hs.linesWf rfl _
  have hbay : ∀ b, s.ticked.bay b = (s.bay b).ticked := fun b => Table.get_map _ _ _ _ hs.baysWf rfl _
  refine ⟨hs.ticked, fun k z hz hnot => ?_, fun k b hb hcls hwatched hB => ?_, fun k z hz => ?_, fun k z hz => ?_, fun k => ?_,
    fun k z hz hfree => ?_, fun k => ?_⟩
  · have hcount : s.ticked.tallyOf z = s.tallyOf z :=
      State.Legal.tallyOf_mapBays (f := Bay.ticked) (fun _ _ => rfl) Bay.ticked_add rfl (by rw [hzone]; rfl) (by rw [hzone]; rfl)
    rw [hzone, hcount]
    exact k z hz hnot
  · rw [hbay] at hcls ⊢
    refine k b hb hcls (fun hw => hwatched (hw.of_live (fun id hl => ?_) (fun id => ?_) fun l hl => ?_)) hB
    · rw [hnode]
      exact (s.node id).ticked_kept.2.1.trans hl
    · rw [hnode]
      exact (s.node id).ticked_kept.1.row
    · rw [hline]
      exact hl
  · rw [hzone]
    exact (s.zone z).ticked_sound.sequencer (hs.zone z) (k z hz)
  · rw [hzone]
    exact (s.zone z).ticked_sound.figures (k z hz)
  · exact k.of_same hs hs.ticked (fun z _ => by rw [hzone]; exact (s.zone z).ticked_names) (fun _ => rfl)
      fun id => by rw [hnode]; exact (s.node id).ticked_kept.1
  · rw [hzone] at hfree ⊢
    obtain ⟨hrecord, hbays, hsigns⟩ := k z hz hfree
    refine ⟨Zone.Bare.ticked hrecord, fun b hb hcls => ?_, hsigns⟩
    rw [hbay] at hcls ⊢
    exact hbays b hb hcls
  · refine k.of_same (fun id => ?_) (fun l => by rw [hline]; rfl) fun l v hv _ => .inr ?_
    · rw [hnode, (s.node id).ticked_kept.2.1]
    · rw [hline] at hv
      exact hv

/-! ## CLEAR (R184) -/

omit hs in
theorem Bay.cleared_cases (b : Bay) : b.cleared.zone = b.zone ∧ b.cleared.cls = b.cls
    ∧ (b.cls ≠ .retired → b.cleared.census = .dark) ∧ (b.Legal → b.cleared.Legal) := by
  unfold Bay.cleared
  split
  · rename_i hr
    exact ⟨rfl, rfl, fun h => absurd hr h, fun h => h⟩
  · rename_i hr
    exact ⟨rfl, rfl, fun _ => rfl, fun ⟨hzone, _⟩ => ⟨hzone, Nat.zero_le _, .inr (.inr rfl),
      fun k hk => (Option.not_mem_none k hk).elim, fun h => absurd h hr⟩⟩

omit hs in
theorem Service.cleared_kept (v : Service) : v.cleared.kind = v.kind ∧ v.cleared.rowBinding = v.rowBinding
    ∧ v.cleared.answer.map Prod.fst = v.answer.map Prod.fst ∧ v.cleared.barrable = v.barrable
    ∧ (v.legal = true → v.cleared.legal = true) ∧ v.cleared.answering = false := by
  cases v with
  | entry e a =>
    refine ⟨rfl, rfl, rfl, rfl, fun h => ?_, rfl⟩
    exact Bool.and_eq_true_iff.mpr ⟨(Bool.and_eq_true_iff.mp h).1, rfl⟩
  | none | row | gas | fan | sign => exact ⟨rfl, rfl, rfl, rfl, fun h => h, rfl⟩

omit hs in
theorem Node.cleared_kept (n : Node) : n.SameBinding n.cleared ∧ (n.state = .live → n.cleared.state = .live)
    ∧ (n.Legal → n.cleared.Legal) := by
  obtain ⟨hkind, hrow, hentrance, hbarrable, hlegal, hanswering⟩ := n.service.cleared_kept
  unfold Node.cleared
  split
  · exact ⟨.refl n, fun h => h, fun h => h⟩
  · rename_i hon
    refine ⟨⟨hkind, hrow, hentrance⟩, fun h => by rw [h]; rfl, fun h => ?_⟩
    obtain ⟨-, hservice, hmisses, -, hbarred, hrange, -⟩ := h
    have hsome : n.service.cleared ≠ .none := fun hnone =>
      hservice hon (Service.kind_eq_none.mp (hkind ▸ Service.kind_eq_none.mpr hnone))
    have hstate : n.state.cleared ≠ .off ∧ (n.state.cleared = .barred → n.state = .barred)
        ∧ (n.state.cleared = .live → n.state ≠ .barred) := by
      cases hst : n.state <;> simp [NodeState.cleared, hst] at hon ⊢
    refine ⟨fun hoff => absurd hoff hstate.1, fun _ => hsome, ?_, fun hlive => ?_, fun hb => ?_, hlegal hrange, fun ha => ?_⟩
    · dsimp only
      split
      · exact hmisses
      · exact Nat.zero_le _
    · dsimp only
      rw [if_neg (hstate.2.2 hlive)]
      exact Nat.succ_pos _
    · exact hbarrable.trans (hbarred (hstate.2.1 hb))
    · exact Bool.noConfusion (hanswering.symm.trans ha)

omit hs in
/-- The bay and node records after CLEAR, with every tally left to be counted. -/
def State.forgotten (s : State) : State :=
  { s with edit := none, bays := Table.map Bay.powerOn Bay.cleared s.bays,
           nodes := Table.map Node.powerOn Node.cleared s.nodes }

theorem State.forgotten_keeps : s.Keeps ⟨[], B, L⟩ ⟨zoneNumbers, B, L⟩ s.forgotten := by
  have hnode : ∀ id, s.forgotten.node id = (s.node id).cleared := fun id => Table.get_map _ _ _ _ hs.nodesWf rfl _
  have hbay : ∀ b, s.forgotten.bay b = (s.bay b).cleared := fun b => Table.get_map _ _ _ _ hs.baysWf rfl _
  have ht : s.forgotten.Legal := by
    have hbays := hs.mapBays (f := Bay.cleared) fun b h => b.cleared_cases.2.2.2 h
    have hnodes := hbays.mapNodes (f := Node.cleared) fun n h => n.cleared_kept.2.2 h
    exact hnodes.setEdit fun x hx => (Option.not_mem_none x hx).elim
  refine ⟨ht, fun _ z hz hnot => absurd (List.mem_range.mpr hz) hnot, fun _ b _ hcls _ _ => ?_, fun k => k, fun k => k,
    fun k => ?_, fun k z hz hfree => ?_, fun k => ?_⟩
  · rw [hbay] at hcls ⊢
    obtain ⟨-, hsame, hdark, -⟩ := (s.bay b).cleared_cases
    exact hdark (hsame ▸ hcls)
  · exact k.of_same hs ht (fun _ _ => .refl _) (fun _ => rfl) fun id => by rw [hnode]; exact (s.node id).cleared_kept.1
  · obtain ⟨hrecord, hbays, hsigns⟩ := k z hz hfree
    refine ⟨hrecord, fun b hb hcls => ?_, hsigns⟩
    rw [hbay] at hcls ⊢
    obtain ⟨hzone, hsame, -, -⟩ := (s.bay b).cleared_cases
    rw [hzone]
    exact hbays b hb (hsame ▸ hcls)
  · exact k.of_same (fun id => hs.off_iff_of_binding ht (by rw [hnode]; exact (s.node id).cleared_kept.1)) (fun _ => Iff.rfl)
      fun _ v hv _ => .inr hv

omit hs in
theorem Zone.reslotted_cleared (z : Zone) (t : Tallies) : z.cleared t
    = (Zone.reslotted { z with tallies := t } (z.slots.map Slot.goStale)).demandChange false := rfl

omit hs in
theorem Zone.cleared_fields (z : Zone) (t : Tallies) : (z.cleared t).inUse = z.inUse ∧ (z.cleared t).shed = z.shed
    ∧ (z.cleared t).tallies = t := by
  obtain ⟨-, hinUse, -, hshed, -, -, hband, htallies⟩ :=
    Zone.reslotted_kept { z with tallies := t } (z.slots.map Slot.goStale)
  have hinputs := Zone.demandChange_inputs (Zone.reslotted { z with tallies := t } (z.slots.map Slot.goStale)) false
  refine ⟨hinputs.air.inUse.trans hinUse, hinputs.air.shed.trans ?_, hinputs.tallies.trans htallies⟩
  simp only [Zone.shed, hinUse, hshed, hband]

omit hs in
theorem Zone.Bare.cleared {z : Zone} (h : z.Bare) : (z.cleared .zero).Bare := by
  unfold Zone.Bare at h
  rw [h]
  rfl

/-- Each zone record cleared with its tallies counted. -/
theorem State.clearZones_keep {zs : List Nat} (hzs : ∀ z ∈ zs, z < 32) :
    s.Keeps ⟨zs, B, L⟩ ⟨[], B, L⟩ (zs.foldl (fun s z => s.putZone z ((s.zone z).cleared (s.tallyOf z))) s) := by
  induction zs generalizing s with
  | nil => exact .refl hs _
  | cons z zs ih =>
    have hz := hzs z List.mem_cons_self
    have hsound := (s.zone z).cleared_sound (s.tallyOf z)
    obtain ⟨hinUse, hshed, htallies⟩ := (s.zone z).cleared_fields (s.tallyOf z)
    refine (State.putZone_keeps_counted B L hs hz hsound
      (fun k => k.setZone hs hz (hsound.legal (hs.zone z)) ((s.zone z).cleared_names _))
      (fun k => k.setZone fun hfree => ⟨hinUse ▸ hfree, fun hbare => ?_⟩)
      (fun y hne hy => (List.mem_cons.mp hy).resolve_left hne) fun _ _ => ?_).trans fun ht =>
        ih ht fun y hy => hzs y (List.mem_cons_of_mem z hy)
    · rw [hs.tallyOf_none (k z hz (hinUse ▸ hfree)).2.1]
      exact hbare.cleared
    · rw [htallies, s.tallyOf_setZone hinUse hshed]

/-- Every pending set emptied (R178). -/
theorem State.emptied_keeps (E : Unsettled) :
    s.Keeps E E { s with zones := Table.map Zone.powerOn Zone.emptied s.zones, sitePending := 0#16 } := by
  have hsound : ∀ z : Zone, z.Sound z.emptied := fun z => z.setPending_sound fun _ => rfl
  have ht : ({ s with zones := Table.map Zone.powerOn Zone.emptied s.zones, sitePending := 0#16 } : State).Legal :=
    (hs.mapZones (f := Zone.emptied) fun z h => (hsound z).legal h).setSitePending rfl
  have hzone : ∀ z, ({ s with zones := Table.map Zone.powerOn Zone.emptied s.zones, sitePending := 0#16 } : State).zone z
      = (s.zone z).emptied := fun z => Table.get_map _ _ _ _ hs.zonesWf rfl _
  have hquiet : ∀ z : Zone, z.Quiet z.emptied := fun z => by
    refine ⟨hsound z, ⟨rfl, rfl⟩, rfl, rfl, rfl, fun h => ?_⟩
    unfold Zone.Bare at h ⊢
    exact congrArg (fun x : Zone => { x with pending := 0#16 }) h
  have h : s.Quiet { s with zones := Table.map Zone.powerOn Zone.emptied s.zones, sitePending := 0#16 } :=
    ⟨rfl, fun z _ => by rw [hzone]; exact hquiet _, fun _ => .refl _, fun _ => .refl _, fun _ => Iff.rfl,
      fun _ v hv _ => .inr hv⟩
  exact h.keeps hs ht E (fun _ h => h) fun _ h => h

theorem State.cleared_keeps : s.Keeps ⟨[], B, L⟩ ⟨[], B, L⟩ s.cleared := by
  refine (State.forgotten_keeps hs).trans fun ht => (State.clearZones_keep ht fun z hz => List.mem_range.mp hz).trans
    fun hu => ?_
  have hsigns : ∀ {u : State}, u.Legal → u.Keeps ⟨[], B, L⟩ ⟨[], B, L⟩ (signNumbers.foldl State.recomputeSign u) := fun hu =>
    .foldl _ (fun i hi v hv => (v.recomputeSign_handOver i).keeps_of_zones hv (hv.recomputeSign (List.mem_range.mp hi))
      (v.recomputeSign_zones i) _) hu
  exact (hsigns hu).trans fun hv => (State.allLights_keeps hv _).trans fun hw => State.emptied_keeps hw _

end

/-! ## RESET (R185) -/

theorem Line.inputOnly_legal (x : Line) : x.inputOnly.Legal :=
  ⟨Nat.zero_le _, Nat.succ_pos _, fun n hn => (Option.not_mem_none n hn).elim, fun v hv => (Option.not_mem_none v hv).elim,
    Bool.noConfusion, .inr ⟨rfl, rfl⟩, .inr ⟨rfl, rfl⟩, LineState.noConfusion⟩

theorem State.Legal.poweredOn {s : State} (hs : s.Legal) (p : Phase) : (s.poweredOn p).Legal := by
  obtain ⟨hreset, -⟩ := resetIsLegal
  obtain ⟨wb, wz, wr, -, wn, ws⟩ := (State.tablesWf_iff _).mp hreset.tables
  refine { hreset with
    tables := (State.tablesWf_iff _).mpr ⟨wb, wz, wr, Table.wf_map _ _ _ _ hs.linesWf, wn, ws⟩
    lines := fun e he => ?_, pending := hs.pending }
  obtain ⟨x, -, rfl, -⟩ := Table.mem_map.mp he
  exact Line.inputOnly_legal _

/-- A part with every record at its power-on value meets every condition (R185). -/
theorem State.poweredOn_keeps {s : State} (hs : s.Legal) (B L : Nat → Prop) (p : Phase) :
    s.Keeps ⟨[], B, L⟩ ⟨[], B, L⟩ (s.poweredOn p) := by
  obtain ⟨-, -, htallies, -, -, -, hsequencers, hfigures, hfree, hbindings, -⟩ := resetIsLegal
  have hline : ∀ l, (s.poweredOn p).line l = (s.line l).inputOnly := fun l => Table.get_map _ _ _ _ hs.linesWf rfl _
  refine ⟨hs.poweredOn p, fun _ z hz _ => htallies z hz, fun _ b _ hcls => absurd rfl hcls, fun _ => hsequencers,
    fun _ z _ => hfigures z, fun _ => { hbindings with }, fun _ => hfree, fun _ l _ _ => ⟨⟨fun _ _ _ _ => rfl, fun _ => ?_⟩,
    fun v hv => ?_⟩⟩
  · rw [hline]
    rfl
  · rw [hline] at hv
    exact (Option.not_mem_none v hv).elim

end Sys2Proof.Machine
end

section
/-! SUPPORT. What every command keeps, part fifteen: command by command. -/

namespace Sys2Proof.Machine

/-- A change from `s` to `t` keeps everything that holds at all times. -/
abbrev State.KeepsAll (s t : State) : Prop := s.Keeps .nothing .nothing t

section
variable {s t : State} {c : Instr}

/-! ## How a command reaches the part -/

theorem State.withOutputs_keeps (hs : s.Legal) : s.KeepsAll s.withOutputs :=
  .aside (t := s.withOutputs) hs
    (hs.setLink s.phase s.ticks s.ignoring s.buffer s.withOutputs.out s.miso s.choices) rfl rfl rfl rfl rfl _

theorem State.serve_keeps {f : State → State} (hf : ∀ s : State, s.Legal → s.KeepsAll (f s)) (hs : s.Legal) :
    s.KeepsAll (s.serve f) := by
  unfold State.serve
  split
  · exact .refl hs _
  · exact .refl hs _
  · split
    · exact .aside hs (hs.setLink s.phase s.ticks false s.buffer s.out s.miso s.choices) rfl rfl rfl rfl rfl _
    · exact hf s hs

theorem State.answered_keeps (hs : s.Legal) (clocked code : Nat) (reason : Reason) (payload : List Byte) :
    s.KeepsAll (s.answered clocked code reason payload) :=
  .aside (t := s.answered clocked code reason payload) hs
    (hs.setLink s.phase s.ticks s.ignoring (s.answered clocked code reason payload).buffer
      (s.answered clocked code reason payload).out (s.answered clocked code reason payload).miso s.choices)
    rfl rfl rfl rfl rfl _

theorem State.transaction_keeps {owner : State → State × OwnerAnswer} (clocked code : Nat)
    (howner : ∀ s : State, s.Legal → s.KeepsAll (owner s).1) (hs : s.Legal) :
    s.KeepsAll (s.transaction clocked code owner) := by
  refine State.serve_keeps (fun s hs => ?_) hs
  split
  · rename_i r _
    exact .aside (t := s.overrun clocked r) hs
      (hs.setLink s.phase s.ticks s.ignoring (s.overrun clocked r).buffer (s.overrun clocked r).out
        (s.overrun clocked r).miso s.choices) rfl rfl rfl rfl rfl _
  · exact (howner s hs).trans fun ht => State.answered_keeps ht clocked code _ _

theorem request_keeps {owner : State → State × OwnerAnswer} (howner : ∀ s : State, s.Legal → s.KeepsAll (owner s).1)
    (hs : s.Legal) (he : request c s owner = .next t) : s.KeepsAll t := by
  unfold request at he
  split at he <;> cases he
  · exact State.transaction_keeps _ _ howner hs
  · exact .refl hs _

theorem event_keeps {f : State → State} (hs : s.Legal) (he : event s f = .next t) (hf : s.KeepsAll (f s)) :
    s.KeepsAll t := by
  unfold event at he
  split at he <;> cases he
  · exact .refl hs _
  · exact hf.trans fun ht => State.withOutputs_keeps ht

/-! ## Owners and effects -/

theorem State.KeepsAll.ite {p : Prop} [Decidable p] {a b : State × OwnerAnswer} (ha : p → s.KeepsAll a.1)
    (hb : ¬ p → s.KeepsAll b.1) : s.KeepsAll (if p then a else b).1 := by
  split
  · exact ha ‹_›
  · exact hb ‹_›

theorem State.KeepsAll.guarded {p : Prop} [Decidable p] {u : State} (hs : s.Legal) (hu : p → s.KeepsAll u) :
    s.KeepsAll (if p then u else s) := by
  split
  · exact hu ‹_›
  · exact .refl hs _

theorem zoneInRange_of_ne {z : Nat} (h : ¬ zoneInRange z = false) : z < 32 :=
  of_decide_eq_true (Bool.of_not_eq_false h)

theorem nodeInRange_of_ne {l a : Nat} (h : ¬ nodeInRange l a = false) : NodeId.Exists ⟨l, a⟩ :=
  (nodeInRange_iff l a).mp (Bool.of_not_eq_false h)

theorem State.closeBay_keeps (hs : s.Legal) (b : Nat) (f : Bool) : s.KeepsAll (s.closeBay b f).1 := by
  refine .ite (fun _ => .refl hs _) fun _ => .ite (fun _ => .refl hs _) fun hservice => .ite (fun _ => .refl hs _) fun _ => ?_
  obtain ⟨hzone, htimer, hruns, hhold, hretired⟩ := hs.bay b
  exact State.oneBay_keeps hs (.of_same hs hservice ⟨hzone, htimer, hruns, hhold, hretired⟩ rfl fun h => h)

theorem State.shedZone_keeps (hs : s.Legal) (z : Nat) (f : Bool) : s.KeepsAll (s.shedZone z f).1 :=
  .ite (fun _ => .refl hs _) fun hz => .ite (fun _ => .refl hs _) fun huse =>
    State.shed_keeps hs (zoneInRange_of_ne hz) (Bool.of_not_eq_false huse) f

theorem State.missVisit_keeps (hs : s.Legal) (l : Nat) : s.KeepsAll (s.missVisit l) :=
  State.concludeVisit_keeps hs fun _ _ ht _ _ => State.miss_keeps ht _ _

theorem State.Legal.setEdit_some (hs : s.Legal) {e : Edit} (he : e.Legal) : ({ s with edit := some e } : State).Legal :=
  hs.setEdit fun _ hx => Option.mem_some.mp hx ▸ he

/-- A place of a list that an event of a stage names. -/
theorem Zone.proofDue_iff {z : Zone} {i : Nat} :
    z.proofDue i = true ↔ ∃ g, z.stages[i]? = some g ∧ g.status = .starting ∧ g.proof = 0 := by
  unfold Zone.proofDue
  cases z.stages[i]? <;> simp

theorem Zone.rundownDue_iff {z : Zone} {i : Nat} :
    z.rundownDue i = true ↔ ∃ g, z.stages[i]? = some g ∧ g.status = .stopping ∧ g.rundown = 0 := by
  unfold Zone.rundownDue
  cases z.stages[i]? <;> simp

/-- A zone that is not at its power-on value exists. -/
theorem State.Legal.zone_place (hs : s.Legal) {z : Nat} (h : s.zone z ≠ Zone.powerOn) : z < 32 := by
  refine Classical.byContradiction fun hout => ?_
  exact h (hs.zone_out (Nat.le_of_not_lt hout))

theorem State.Legal.zone_place_of_stage (hs : s.Legal) {z i : Nat} {g : Stage} (h : (s.zone z).stages[i]? = some g) : z < 32 :=
  hs.zone_place fun heq => by
    rw [heq] at h
    cases h

theorem Zone.slotDue_iff {z : Zone} {i : Nat} :
    z.slotDue i = true ↔ ∃ g, z.slots[i]? = some g ∧ g.fresh = true ∧ g.age = 0 := by
  unfold Zone.slotDue
  cases z.slots[i]? <;> simp

end

/-! ## The commands -/

section
variable {s t : State} (hs : s.Legal)
include hs

theorem zoneSetInUse_keeps {z u : Nat} {cfg : ZoneParams} (he : exec (.zoneSetInUse z u cfg) s = .next t) : s.KeepsAll t := by
  refine request_keeps (c := .zoneSetInUse z u cfg) (fun s hs => .ite (fun h => ?_) fun _ => .refl hs _) hs he
  simp only [Bool.and_eq_true] at h
  obtain ⟨⟨hz, -⟩, hc⟩ := h
  exact (State.configure_keeps hs (of_decide_eq_true hz) hc).trans fun ht => State.levelChanged_keeps ht _ _ _

theorem zoneSetFree_keeps {z : Nat} {cfg : ZoneParams} (he : exec (.zoneSetFree z cfg) s = .next t) : s.KeepsAll t := by
  refine request_keeps (c := .zoneSetFree z cfg) (fun s hs => .ite (fun _ => .refl hs _) fun hz =>
    .ite (fun _ => .refl hs _) fun hnamed => ?_) hs he
  exact (State.free_keeps hs (zoneInRange_of_ne hz) (Bool.of_not_eq_true hnamed)).trans
    fun ht => State.levelChanged_keeps ht _ _ _

theorem routeSet_keeps {e z cost : Nat} (hc : (Instr.routeSet e z cost).wf = true)
    (he : exec (.routeSet e z cost) s = .next t) : s.KeepsAll t := by
  have hcost : cost ≤ 255 := by
    simp only [Instr.wf, Bool.and_eq_true, isByte, decide_eq_true_eq] at hc
    omega
  refine request_keeps (c := .routeSet e z cost) (fun s hs => .ite (fun h => ?_) fun _ => .refl hs _) hs he
  simp only [Bool.and_eq_true] at h
  exact .aside hs (hs.setRoute (of_decide_eq_true h.1) (of_decide_eq_true h.2) hcost) rfl rfl rfl rfl rfl _

omit hs in
/-- What SITE_SET writes is within the ranges of R40. -/
theorem saturatedSite_legal {c : SiteParams} (hfits : c.fits = true) (h : siteParamsInRange c = true) :
    siteLegal (saturatedSite c) := by
  have hpenalty : c.raisedPenalty ≤ 255 := by
    simp only [SiteParams.fits, Bool.and_eq_true, isByte, decide_eq_true_eq] at hfits
    omega
  have hsat (n : Nat) : saturate15 n ≤ 15 := Nat.min_le_right n 15
  exact ⟨h, hpenalty, hsat _, hsat _, hsat _, hsat _, hsat _, hsat _, hsat _⟩

theorem siteSet_keeps {c : SiteParams} (hc : (Instr.siteSet c).wf = true) (he : exec (.siteSet c) s = .next t) :
    s.KeepsAll t := by
  refine request_keeps (c := .siteSet c) (fun s hs => .ite (fun h => ?_) fun _ => .refl hs _) hs he
  have hset : s.KeepsAll { s with site := saturatedSite c } :=
    .aside hs (hs.setSite (saturatedSite_legal hc h)) rfl rfl rfl rfl rfl _
  exact hset.trans fun ht => State.allLights_keeps ht _

theorem editOpen_keeps {row offset : Nat} (he : exec (.editOpen row offset) s = .next t) : s.KeepsAll t := by
  refine request_keeps (c := .editOpen row offset) (fun s hs => .ite (fun _ => .refl hs _) fun h => ?_) hs he
  split
  · exact .refl hs _
  · have hin := Bool.and_eq_true_iff.mp (Bool.of_not_eq_false h)
    have hedit : (s.openedEdit row offset).Legal := by
      refine ⟨of_decide_eq_true hin.1, by simp [State.openedEdit, rowBays], fun x hx => ?_,
        Nat.le_of_lt (of_decide_eq_true hin.2), Nat.le_refl 600⟩
      obtain ⟨b, -, rfl⟩ := List.mem_map.mp hx
      exact (hs.bay b).1
    exact .aside hs (hs.setEdit_some hedit) rfl rfl rfl rfl rfl _

theorem editPut_keeps {z k f : Nat} (he : exec (.editPut z k f) s = .next t) : s.KeepsAll t := by
  refine request_keeps (c := .editPut z k f) (fun s hs => ?_) hs he
  split
  · exact .refl hs _
  · rename_i e hedit
    refine .ite (fun _ => .refl hs _) fun hcursor => ?_
    split
    · exact .refl hs _
    · rename_i x hx
      refine .ite (fun _ => ?_) fun _ => .refl hs _
      obtain ⟨hrow, hlen, hentries, hle, -⟩ := hs.edit e hedit
      have hzone : x.zone < 32 := by
        obtain ⟨hz, -, -, hxz, -⟩ := entryOf_eq_some hx
        exact hxz ▸ hz
      have hput : (e.put x).Legal := by
        refine ⟨hrow, (changeAt_length _ _ _).trans hlen, fun y hy => ?_, ?_, Nat.le_refl 600⟩
        · rcases mem_changeAt hy with hy | ⟨_, -, rfl⟩
          · exact hentries y hy
          · exact hzone
        · exact Nat.lt_of_le_of_ne hle hcursor
      exact .aside hs (hs.setEdit_some hput) rfl rfl rfl rfl rfl _

end

end Sys2Proof.Machine
end

section
/-! SUPPORT. What every command keeps, part sixteen: the requests about bindings, zones and holds, and the rest of the host's. -/

namespace Sys2Proof.Machine

theorem Zone.stage_of_statusAt {z : Zone} {i : Nat} (h : z.statusAt i ≠ .idle) :
    ∃ g, z.stages[i]? = some g ∧ g.status = z.statusAt i := by
  unfold Zone.statusAt at h ⊢
  split
  · exact ⟨_, ‹_›, rfl⟩
  · rename_i hnone
    rw [hnone] at h
    exact absurd rfl h

theorem Node.unbarred_legal {n : Node} (h : n.Legal) (hb : n.state = .barred) (x : LineState) : (n.unbarred x).Legal := by
  obtain ⟨-, hkind, -, -, -, hservice, hanswer⟩ := h
  have hon : n.state ≠ .off := fun hoff => NodeState.noConfusion (hb.symm.trans hoff)
  have hstate : (n.unbarred x).state = .silent ∨ (n.unbarred x).state = .live := by
    unfold Node.unbarred
    split
    · exact .inl rfl
    · exact .inr rfl
  refine ⟨fun hoff => ?_, fun _ => hkind hon, Nat.zero_le 5, fun _ => Nat.zero_lt_succ 4, fun hbar => ?_, hservice, fun ha => ?_⟩
  · rcases hstate with hx | hx <;> cases hx.symm.trans hoff
  · rcases hstate with hx | hx <;> cases hx.symm.trans hbar
  · cases hb.symm.trans (hanswer ha)

section
variable {s t : State} (hs : s.Legal)
include hs

/-- A request that only reads, or is refused. -/
theorem reading_keeps {c : Instr} {owner : State → State × OwnerAnswer} (howner : ∀ s : State, (owner s).1 = s)
    (he : request c s owner = .next t) : s.KeepsAll t :=
  request_keeps (c := c) (fun s hs => (howner s).symm ▸ .refl hs _) hs he

theorem holdRelease_keeps {b : Nat} (he : exec (.holdRelease b) s = .next t) : s.KeepsAll t := by
  refine request_keeps (c := .holdRelease b) (fun s hs => .ite (fun _ => .refl hs _) fun _ =>
    .ite (fun _ => .refl hs _) fun hhold => ?_) hs he
  exact State.endHold_keeps hs fun hnone => hhold (Option.isNone_iff_eq_none.mpr hnone)

theorem editCommit_keeps (he : exec .editCommit s = .next t) : s.KeepsAll t := by
  refine request_keeps (c := .editCommit) (fun s hs => ?_) hs he
  split
  · exact .refl hs _
  · rename_i e hedit
    split
    · exact .refl hs _
    · rename_i hnone
      refine State.commit_keeps hs hedit fun x hx => ?_
      have := firstPlace_eq_none.mp hnone x hx
      simpa using this

theorem editDrop_keeps (he : exec .editDrop s = .next t) : s.KeepsAll t := by
  refine request_keeps (c := .editDrop) (fun s hs => ?_) hs he
  split
  · exact .refl hs _
  · exact .aside hs (hs.setEdit fun _ h => (Option.not_mem_none _ h).elim) rfl rfl rfl rfl rfl _

theorem nodeBind_keeps {l a k b1 b2 : Nat} (he : exec (.nodeBind l a k b1 b2) s = .next t) : s.KeepsAll t := by
  refine request_keeps (c := .nodeBind l a k b1 b2) (fun s hs => .ite (fun _ => .refl hs _) fun hid => ?_) hs he
  split
  · exact .refl hs _
  · rename_i v hv
    refine .ite (fun _ => .refl hs _) fun hfree => ?_
    rw [not_or, Classical.not_not] at hfree
    exact State.bind_keeps hs (nodeInRange_of_ne hid) hv hfree.1 (Bool.of_not_eq_true hfree.2)

theorem nodeRetire_keeps {l a : Nat} (he : exec (.nodeRetire l a) s = .next t) : s.KeepsAll t := by
  refine request_keeps (c := .nodeRetire l a) (fun s hs => .ite (fun _ => .refl hs _) fun hid =>
    .ite (fun _ => .refl hs _) fun hnot => ?_) hs he
  rw [not_or] at hnot
  exact State.retire_keeps hs (nodeInRange_of_ne hid) hnot.1 (Bool.of_not_eq_true hnot.2)

theorem nodeBar_keeps {l a : Nat} (he : exec (.nodeBar l a) s = .next t) : s.KeepsAll t := by
  refine request_keeps (c := .nodeBar l a) (fun s hs => .ite (fun _ => .refl hs _) fun _ =>
    .ite (fun _ => .refl hs _) fun hnot => .ite (fun _ => .refl hs _) fun _ => ?_) hs he
  rw [not_or] at hnot
  exact State.bar_keeps hs hnot.1 (Bool.of_not_eq_false hnot.2)

theorem nodeUnbar_keeps {l a : Nat} (he : exec (.nodeUnbar l a) s = .next t) : s.KeepsAll t := by
  refine request_keeps (c := .nodeUnbar l a) (fun s hs => .ite (fun _ => .refl hs _) fun _ =>
    .ite (fun _ => .refl hs _) fun hbarred => ?_) hs he
  have hb := Classical.not_not.mp hbarred
  exact State.setNode_keeps hs (fun hoff => NodeState.noConfusion (hb.symm.trans hoff))
    (Node.unbarred_legal (hs.node ⟨l, a⟩) hb _) ⟨rfl, rfl, rfl⟩ fun hlive => NodeState.noConfusion (hb.symm.trans hlive)

theorem zoneSlotBind_keeps {f z l a ch ref : Nat} (he : exec (.zoneSlotBind f z l a ch ref) s = .next t) : s.KeepsAll t := by
  refine request_keeps (c := .zoneSlotBind f z l a ch ref) (fun s hs => .ite (fun _ => .refl hs _) fun hrange =>
    .ite (fun _ => .refl hs _) fun huse => .ite (fun _ => .refl hs _) fun hnode => .ite (fun _ => .refl hs _) fun hroom =>
    .ite (fun _ => .refl hs _) fun htaken => ?_) hs he
  simp only [Bool.not_eq_false, Bool.and_eq_true, decide_eq_true_eq, within_iff, zoneInRange_iff, nodeInRange_iff] at hrange
  obtain ⟨⟨⟨⟨-, hz⟩, hid⟩, hch⟩, href⟩ := hrange
  rw [not_or, Classical.not_not] at hnode
  exact State.slotBind_keeps hs hz hid hch href (Bool.of_not_eq_false huse) hnode.2 (Nat.lt_of_not_le hroom)
    (Bool.of_not_eq_true htaken)

theorem zoneSlotUnbind_keeps {f z n : Nat} (he : exec (.zoneSlotUnbind f z n) s = .next t) : s.KeepsAll t := by
  refine request_keeps (c := .zoneSlotUnbind f z n) (fun s hs => .ite (fun _ => .refl hs _) fun hrange =>
    .ite (fun _ => .refl hs _) fun hnot => ?_) hs he
  simp only [Bool.not_eq_false, Bool.and_eq_true, zoneInRange_iff] at hrange
  rw [not_or] at hnot
  exact State.slotUnbind_keeps hs hrange.1.2 (Bool.of_not_eq_false hnot.1) _

theorem zoneStageBind_keeps {f z l a : Nat} (he : exec (.zoneStageBind f z l a) s = .next t) : s.KeepsAll t := by
  refine request_keeps (c := .zoneStageBind f z l a) (fun s hs => .ite (fun _ => .refl hs _) fun hrange =>
    .ite (fun _ => .refl hs _) fun huse => .ite (fun _ => .refl hs _) fun hidle => .ite (fun _ => .refl hs _) fun hnode =>
    .ite (fun _ => .refl hs _) fun hroom => .ite (fun _ => .refl hs _) fun htaken => ?_) hs he
  simp only [Bool.not_eq_false, Bool.and_eq_true, zoneInRange_iff, nodeInRange_iff] at hrange
  obtain ⟨⟨-, hz⟩, hid⟩ := hrange
  rw [not_or, Classical.not_not] at hnode
  exact (State.stageBind_keeps hs hz hid (Bool.of_not_eq_false huse) (Classical.not_not.mp hidle) hnode.2 (Nat.lt_of_not_le hroom)
    (Bool.of_not_eq_true htaken)).trans fun ht => State.markOutput_keeps ht _ _

theorem zoneStageUnbind_keeps {f z n : Nat} (he : exec (.zoneStageUnbind f z n) s = .next t) : s.KeepsAll t := by
  refine request_keeps (c := .zoneStageUnbind f z n) (fun s hs => .ite (fun _ => .refl hs _) fun hrange =>
    .ite (fun _ => .refl hs _) fun hnot => ?_) hs he
  simp only [Bool.not_eq_false, Bool.and_eq_true, zoneInRange_iff] at hrange
  simp only [not_or, Classical.not_not] at hnot
  obtain ⟨huse, -, hidle, -⟩ := hnot
  exact State.stageUnbind_keeps hs hrange.1.2 (Bool.of_not_eq_false huse) hidle _

theorem zoneFloor_keeps {z f : Nat} (he : exec (.zoneFloor z f) s = .next t) : s.KeepsAll t := by
  refine request_keeps (c := .zoneFloor z f) (fun s hs => .ite (fun _ => .refl hs _) fun hrange =>
    .ite (fun _ => .refl hs _) fun huse => ?_) hs he
  simp only [Bool.not_eq_false, Bool.and_eq_true, zoneInRange_iff, decide_eq_true_eq] at hrange
  exact State.floor_keeps hs hrange.1 hrange.2 (Bool.of_not_eq_false huse)

theorem fanReset_keeps {z n : Nat} (he : exec (.fanReset z n) s = .next t) : s.KeepsAll t := by
  refine request_keeps (c := .fanReset z n) (fun s hs => .ite (fun _ => .refl hs _) fun hrange =>
    .ite (fun _ => .refl hs _) fun _ => .ite (fun _ => .refl hs _) fun hfaulted => ?_) hs he
  simp only [Bool.not_eq_false, Bool.and_eq_true, zoneInRange_iff] at hrange
  have hstatus := Classical.not_not.mp hfaulted
  obtain ⟨g, hg, hgs⟩ := Zone.stage_of_statusAt (i := n - 1) (z := s.zone z) fun hidle =>
    StageStatus.noConfusion (hstatus.symm.trans hidle)
  exact State.putZone_keeps hs hrange.1 (Zone.resetStage_quiet hg (hgs.trans hstatus))

theorem holdPlaceByBay_keeps {b ticket : Nat} (he : exec (.holdPlaceByBay b ticket) s = .next t) : s.KeepsAll t := by
  refine request_keeps (c := .holdPlaceByBay b ticket) (fun s hs => .ite (fun _ => .refl hs _) fun hrange => ?_) hs he
  simp only [Bool.not_eq_false, Bool.and_eq_true, decide_eq_true_eq] at hrange
  split
  · rename_i s' hplace
    exact State.placeHold_keeps hs hrange.2 (Nat.le_refl 8) hplace
  · exact .refl hs _

theorem holdPlaceBest_keeps {e c ticket : Nat} (he : exec (.holdPlaceBest e c ticket) s = .next t) : s.KeepsAll t := by
  refine request_keeps (c := .holdPlaceBest e c ticket) (fun s hs => ?_) hs he
  split
  · exact .refl hs _
  · refine .ite (fun _ => .refl hs _) fun hrange => ?_
    simp only [Bool.not_eq_false, Bool.and_eq_true, decide_eq_true_eq] at hrange
    split
    · exact .refl hs _
    · split
      · rename_i s' hplace
        exact State.placeHold_keeps hs hrange.2 (Nat.le_refl 8) hplace
      · exact .refl hs _

theorem eventsTake_keeps {n : Nat} {c : EventSet} (he : exec (.eventsTake n c) s = .next t) : s.KeepsAll t :=
  request_keeps (c := .eventsTake n c) (fun _ hs => .ite (fun _ => State.clearMembers_keeps hs c) fun _ => .refl hs _) hs he

theorem clear_keeps (he : exec .clear s = .next t) : s.KeepsAll t :=
  request_keeps (c := .clear) (owner := fun s => (s.cleared, doneEmpty)) (fun _ hs => State.cleared_keeps hs) hs he

theorem State.readTransaction_keeps (n : Nat) : s.KeepsAll (s.readTransaction n) := by
  unfold State.readTransaction
  split
  · exact .refl hs _
  · refine State.serve_keeps (fun s hs => ?_) hs
    have heq : s.readOut n = { s with buffer := (s.readOut n).buffer, miso := (s.readOut n).miso } := by
      unfold State.readOut
      split <;> rfl
    have hread : s.KeepsAll (s.readOut n) := by
      rw [heq]
      exact .aside (t := { s with buffer := (s.readOut n).buffer, miso := (s.readOut n).miso }) hs
        (hs.setLink s.phase s.ticks s.ignoring (s.readOut n).buffer s.out (s.readOut n).miso s.choices)
        rfl rfl rfl rfl rfl _
    exact hread.trans fun ht => State.withOutputs_keeps ht

theorem malformedRequest_keeps {bytes : List Byte} (he : exec (.malformedRequest bytes) s = .next t) : s.KeepsAll t := by
  cases bytes with
  | nil =>
    cases he
    exact .refl hs _
  | cons first rest =>
    change (if first = readByte then Host.Outcome.next (s.readTransaction (1 + rest.length)) else _) = _ at he
    split at he <;> cases he
    · exact State.readTransaction_keeps hs _
    · exact State.transaction_keeps _ _ (fun _ hs => .refl hs _) hs

theorem startUpEnd_keeps (he : exec .startUpEnd s = .next t) : s.KeepsAll t := by
  change execStartUpEnd s = _ at he
  unfold execStartUpEnd at he
  split at he <;> cases he
  · exact .aside hs (hs.setLink .running s.ticks _ s.buffer s.out s.miso _) rfl rfl rfl rfl rfl _
  · exact .refl hs _

theorem signSet_keeps {i l a m f : Nat} {zones : ZoneSet} {text : List Byte}
    (he : exec (.signSet i l a m zones f text) s = .next t) : s.KeepsAll t := by
  refine request_keeps (c := .signSet i l a m zones f text) (fun s hs => ?_) hs he
  split
  · refine .ite (fun _ => .refl hs _) fun hrange => .ite (fun _ => .refl hs _) fun hbound =>
      .ite (fun _ => .refl hs _) fun huse => .ite (fun _ => .refl hs _) fun hfree => ?_
    obtain ⟨hi, hid, hlen, htext⟩ := (signRange_iff i l a text).mp (Bool.of_not_eq_false hrange)
    have hnode : ∀ id ∈ signNode l a, a ≠ 0 ∧ id = ⟨l, a⟩ := fun id h => by
      unfold signNode at h
      split at h
      · cases h
      · exact ⟨‹_›, (Option.mem_some.mp h).symm⟩
    have hbound := (hs.signNodeBound_iff l a).mp (Bool.of_not_eq_false hbound)
    have hfree := (s.signNodeFree_iff i l a).mp (Bool.of_not_eq_false hfree)
    refine State.writeSign_keeps hs hi (fun id h => ?_) hlen (fun b hb => (within_iff _ _ _).mpr (htext b hb)) (fun id h => ?_)
      ((s.zonesInUse_iff zones).mp (Bool.of_not_eq_false huse)) fun id h => ?_
    all_goals
      obtain ⟨ha, rfl⟩ := hnode id h
      simp only [ha, false_or] at hid hbound hfree
    · exact hid
    · exact hbound
    · exact hfree
  all_goals exact .refl hs _

end

end Sys2Proof.Machine
end

section
/-! CERTIFICATE. What every step keeps: records within their ranges, tallies, unwatched bays, sequencers, figures, bindings. -/

namespace Sys2Proof.Machine

section
variable {s t : State} (hs : s.Legal)
include hs

/-! ## Events -/

theorem settleTimerExpiry_keeps {b : Nat} (he : exec (.settleTimerExpiry b) s = .next t) : s.KeepsAll t := by
  refine event_keeps hs he (.guarded hs fun h => ?_)
  obtain ⟨hzone, -, -, hhold, hretired⟩ := hs.bay b
  have hservice : (s.bay b).cls ≠ .retired := fun hr => Census.noConfusion ((hretired hr).1.symm.trans h.1)
  refine State.oneBay_keeps hs (.of_same hs hservice ⟨hzone, Nat.zero_le _, .inr (.inr rfl), fun x hx => ?_,
    fun hr => absurd hr hservice⟩ rfl fun _ hdark => Census.noConfusion (h.1.symm.trans hdark))
  rcases (hhold x hx).2 with hc | hc <;> cases h.1.symm.trans hc

theorem departTimerExpiry_keeps {b : Nat} (he : exec (.departTimerExpiry b) s = .next t) : s.KeepsAll t := by
  refine event_keeps hs he (.guarded hs fun h => ?_)
  obtain ⟨hzone, -, -, hhold, hretired⟩ := hs.bay b
  have hservice : (s.bay b).cls ≠ .retired := fun hr => Census.noConfusion ((hretired hr).1.symm.trans h.1)
  refine State.oneBay_keeps hs (.of_same hs hservice ⟨hzone, Nat.zero_le _, .inr (.inr rfl), fun x hx => ?_,
    fun hr => absurd hr hservice⟩ rfl fun _ hdark => Census.noConfusion (h.1.symm.trans hdark))
  exact ⟨(hhold x hx).1, .inl rfl⟩

theorem holdTimerExpiry_keeps {b : Nat} (he : exec (.holdTimerExpiry b) s = .next t) : s.KeepsAll t := by
  refine event_keeps hs he (.guarded hs fun h => ?_)
  have hhold : (s.bay b).hold ≠ none := fun hnone => by
    rw [Bay.holdDue, hnone] at h
    cases h
  exact (State.endHold_keeps hs hhold).trans fun ht => State.raiseZone_keeps ht _ (hs.bay b).1 _

theorem windowTimerExpiry_keeps (he : exec .windowTimerExpiry s = .next t) : s.KeepsAll t := by
  change execWindowTimerExpiry s = _ at he
  unfold execWindowTimerExpiry at he
  refine event_keeps hs he ?_
  split
  · refine .guarded hs fun _ => ?_
    have hdrop : s.KeepsAll { s with edit := none } :=
      .aside hs (hs.setEdit fun _ h => (Option.not_mem_none _ h).elim) rfl rfl rfl rfl rfl _
    exact hdrop.trans fun ht => State.raiseSite_keeps ht _ _
  · exact .refl hs _

theorem ageTimerExpiry_keeps {z n : Nat} (he : exec (.ageTimerExpiry z n) s = .next t) : s.KeepsAll t := by
  refine event_keeps hs he (.guarded hs fun h => ?_)
  obtain ⟨g, hg, -⟩ := Zone.slotDue_iff.mp h.2
  have hz : z < 32 := hs.zone_place fun heq => by
    rw [heq] at hg
    cases hg
  exact State.changeZone_keeps_moved hs hz ((s.zone z).ageOut_moved _)

theorem proofTimerExpiry_keeps {z n : Nat} (he : exec (.proofTimerExpiry z n) s = .next t) : s.KeepsAll t := by
  refine event_keeps hs he (.guarded hs fun h => ?_)
  obtain ⟨g, hg, -⟩ := Zone.proofDue_iff.mp h.2
  exact State.putZone_keeps hs (hs.zone_place_of_stage hg) (Zone.faultStage_quiet hg _)

theorem rundownTimerExpiry_keeps {z n : Nat} (he : exec (.rundownTimerExpiry z n) s = .next t) : s.KeepsAll t := by
  refine event_keeps hs he (.guarded hs fun h => ?_)
  obtain ⟨g, hg, hstop, -⟩ := Zone.rundownDue_iff.mp h.2
  exact State.putZone_keeps hs (hs.zone_place_of_stage hg) (Zone.rundownEnd_quiet hg hstop)

theorem dwellTimerExpiry_keeps {z : Nat} (he : exec (.dwellTimerExpiry z) s = .next t) : s.KeepsAll t := by
  refine event_keeps hs he (.guarded hs fun h => ?_)
  have hz : z < 32 := hs.zone_place fun heq => by
    rw [heq] at h
    cases h.1
  exact State.putZone_keeps hs hz (Zone.enterIdle_quiet h.1)

theorem aisleTimerExpiry_keeps {l a : Nat} (he : exec (.aisleTimerExpiry l a) s = .next t) : s.KeepsAll t := by
  refine event_keeps hs he (.guarded hs fun h => ?_)
  refine State.setAisleTimer_keeps hs (fun hoff => ?_) _
  rw [(hs.node ⟨l, a⟩).1 hoff] at h
  cases h

theorem State.Legal.line_place_of_state {l : Nat} (h : (s.line l).state ≠ .idle) : l < 4 :=
  hs.line_place fun heq => h (congrArg Line.state heq)

theorem probeTimerExpiry_keeps {l : Nat} (he : exec (.probeTimerExpiry l) s = .next t) : s.KeepsAll t := by
  refine event_keeps hs he (.guarded hs fun h => ?_)
  obtain ⟨hscan, hmeasure, -, hvisit, hde, -, hquiet, -⟩ := hs.line l
  refine State.setLine_keeps hs (hs.line_place_of_state (by simp [h.1]))
    ⟨hscan, hmeasure, fun _ hn => (Option.not_mem_none _ hn).elim, hvisit, hde, .inl h.1, hquiet, fun _ => by simp⟩ Iff.rfl id
    fun _ hv _ => .inr hv

theorem probeWatchEnd_keeps {l : Nat} {idle : Bool} (he : exec (.probeWatchEnd l idle) s = .next t) : s.KeepsAll t := by
  refine event_keeps hs he (.guarded hs fun h => ?_)
  obtain ⟨hscan, hmeasure, hprobe, hvisit, hde, hfault, hquiet, hwatch⟩ := hs.line l
  have hl : l < 4 := hs.line_place_of_state (by simp [h.1])
  split
  · have hnone : (s.line l).probe = none := by
      have := hwatch h.1
      rw [h.2] at this
      simpa using this
    refine (State.setLine_keeps (x := { s.line l with state := .scanning, scan := 0, breakMeasure := 0, watch := false }) hs hl
      ⟨Nat.zero_le _, Nat.zero_lt_succ _, hprobe, hvisit, hde, .inr ⟨hnone, rfl⟩, .inl rfl, fun hx => nomatch hx⟩
      (by simp [h.1]) (fun _ => rfl) fun _ hv _ => .inr hv).trans fun ht => ?_
    exact (State.relearnLine_keeps ht l).trans fun hu => State.raiseSite_keeps hu _ _
  · refine State.setLine_keeps hs hl ⟨hscan, hmeasure, fun n hn => ?_, hvisit, hde, .inl h.1, hquiet, fun _ => by simp⟩ Iff.rfl
      id fun _ hv _ => .inr hv
    cases Option.mem_some.mp hn
    exact Nat.le_refl 10

theorem visitStart_keeps {l : Nat} (he : exec (.visitStart l) s = .next t) : s.KeepsAll t := by
  refine event_keeps hs he (.guarded hs fun h => ?_)
  split
  · rename_i a hnext
    have hmem : a ∈ s.addresses l := by
      unfold State.nextAddress at hnext
      split at hnext
      · cases hnext
        exact List.mem_of_find?_eq_some ‹_›
      · exact List.mem_of_mem_head? hnext
    obtain ⟨ha, ha', hon⟩ := (hs.mem_addresses l a).mp hmem
    exact State.beginVisit_keeps hs h.1 hon ⟨hs.line_place_of_state (by simp [h.1]), ha, ha'⟩
  · exact .refl hs _

theorem frameSent_keeps {l : Nat} (he : exec (.frameSent l) s = .next t) : s.KeepsAll t := by
  refine event_keeps hs he (.guarded hs fun h => ?_)
  obtain ⟨hscan, hmeasure, hprobe, hvisit, -, hfault, hquiet, hwatch⟩ := hs.line l
  have hl : l < 4 := hs.line_place fun heq => by
    rw [heq] at h
    cases h
  refine State.setLine_keeps hs hl ⟨hscan, ?_, hprobe, hvisit, fun hx => absurd hx Bool.false_ne_true, hfault, ?_, hwatch⟩ Iff.rfl id
    fun _ hv _ => .inr hv
  · show (if _ then _ else _) < 20
    split <;> omega
  · refine hquiet.imp id fun hx => ⟨hx.1, ?_⟩
    show (if _ then _ else _) = 0
    rw [hx.2, ite_self]

theorem validReply_keeps {l : Nat} {chars : List Char9} (he : exec (.validReply l chars) s = .next t) : s.KeepsAll t :=
  event_keeps (f := fun s => s.concludeVisit l fun s v => s.replyTo ⟨l, v.address⟩ v.command chars) hs he
    (State.concludeVisit_keeps hs fun _ _ ht hid hscan => State.replyTo_keeps ht hid hscan _ _)

theorem breakDetected_keeps {l : Nat} (he : exec (.breakDetected l) s = .next t) : s.KeepsAll t :=
  event_keeps hs he (.guarded hs fun h => State.enterFault_keeps hs h.1 h.2.2)

theorem breakLevelChange_keeps {l : Nat} {atBreak : Bool} (he : exec (.breakLevelChange l atBreak) s = .next t) :
    s.KeepsAll t := by
  change (if _ then _ else _) = _ at he
  split at he <;> cases he
  · rename_i hl
    obtain ⟨hscan, hmeasure, hprobe, hvisit, hde, hfault, hquiet, hwatch⟩ := hs.line l
    refine (State.setLine_keeps (x := (s.line l).received atBreak) hs hl ⟨hscan, ?_, hprobe, hvisit, hde, hfault, ?_, hwatch⟩
      Iff.rfl id fun _ hv _ => .inr hv).trans fun ht => State.withOutputs_keeps ht
    · show (if _ then _ else _) < 20
      split <;> omega
    · refine hquiet.imp id fun hx => ⟨hx.1, ?_⟩
      show (if _ then _ else _) = 0
      rw [hx.2, ite_self]
  · exact .refl hs _

/-! ## Every command -/

/-- Every command that can reach the part keeps what holds at all times. -/
theorem exec_keeps {c : Instr} (hc : c.wf = true) (he : exec c s = .next t) : s.KeepsAll t := by
  cases c with
  | getBay b => exact reading_keeps hs (c := .getBay b) (fun s => by split <;> rfl) he
  | getRow r => exact reading_keeps hs (c := .getRow r) (fun s => by split <;> rfl) he
  | bayClose b => exact request_keeps (c := .bayClose b) (fun s hs => State.closeBay_keeps hs b true) hs he
  | bayOpen b => exact request_keeps (c := .bayOpen b) (fun s hs => State.closeBay_keeps hs b false) hs he
  | holdRelease b => exact holdRelease_keeps hs he
  | zoneSetInUse z u cfg => exact zoneSetInUse_keeps hs he
  | zoneSetFree z cfg => exact zoneSetFree_keeps hs he
  | zoneShed z => exact request_keeps (c := .zoneShed z) (fun s hs => State.shedZone_keeps hs z true) hs he
  | zoneUnshed z => exact request_keeps (c := .zoneUnshed z) (fun s hs => State.shedZone_keeps hs z false) hs he
  | getZone z => exact reading_keeps hs (c := .getZone z) (fun s => by split <;> rfl) he
  | routeSet e z cost => exact routeSet_keeps hs hc he
  | getRoutes e => exact reading_keeps hs (c := .getRoutes e) (fun s => by split <;> rfl) he
  | siteSet c => exact siteSet_keeps hs hc he
  | getSite => exact reading_keeps hs (c := .getSite) (fun _ => rfl) he
  | editOpen r o => exact editOpen_keeps hs he
  | editPut z k f => exact editPut_keeps hs he
  | editCommit => exact editCommit_keeps hs he
  | editDrop => exact editDrop_keeps hs he
  | nodeBind l a k b1 b2 => exact nodeBind_keeps hs he
  | nodeRetire l a => exact nodeRetire_keeps hs he
  | nodeBar l a => exact nodeBar_keeps hs he
  | nodeUnbar l a => exact nodeUnbar_keeps hs he
  | zoneSlotBind f z l a ch ref => exact zoneSlotBind_keeps hs he
  | zoneSlotUnbind f z n => exact zoneSlotUnbind_keeps hs he
  | zoneStageBind f z l a => exact zoneStageBind_keeps hs he
  | zoneStageUnbind f z n => exact zoneStageUnbind_keeps hs he
  | getNode l a => exact reading_keeps hs (c := .getNode l a) (fun s => by split <;> rfl) he
  | zoneFloor z f => exact zoneFloor_keeps hs he
  | fanReset z n => exact fanReset_keeps hs he
  | holdPlaceByBay b ticket => exact holdPlaceByBay_keeps hs he
  | holdPlaceBest e c ticket => exact holdPlaceBest_keeps hs he
  | signSet i l a m zones f text => exact signSet_keeps hs he
  | getSign i => exact reading_keeps hs (c := .getSign i) (fun s => by split <;> rfl) he
  | eventsTake n clear => exact eventsTake_keeps hs he
  | eventsSummary => exact reading_keeps hs (c := .eventsSummary) (fun _ => rfl) he
  | clear => exact clear_keeps hs he
  | unknownRequest code params => exact reading_keeps hs (c := .unknownRequest code params) (fun _ => rfl) he
  | read n =>
    cases he
    exact State.readTransaction_keeps hs n
  | resetAssert =>
    cases he
    exact State.poweredOn_keeps hs _ _ _
  | resetRelease =>
    cases he
    exact State.poweredOn_keeps hs _ _ _
  | startUpEnd => exact startUpEnd_keeps hs he
  | settleTimerExpiry b => exact settleTimerExpiry_keeps hs he
  | departTimerExpiry b => exact departTimerExpiry_keeps hs he
  | holdTimerExpiry b => exact holdTimerExpiry_keeps hs he
  | windowTimerExpiry => exact windowTimerExpiry_keeps hs he
  | ageTimerExpiry z n => exact ageTimerExpiry_keeps hs he
  | proofTimerExpiry z n => exact proofTimerExpiry_keeps hs he
  | rundownTimerExpiry z n => exact rundownTimerExpiry_keeps hs he
  | dwellTimerExpiry z => exact dwellTimerExpiry_keeps hs he
  | aisleTimerExpiry l a => exact aisleTimerExpiry_keeps hs he
  | probeTimerExpiry l => exact probeTimerExpiry_keeps hs he
  | probeWatchEnd l idle => exact probeWatchEnd_keeps hs he
  | visitStart l => exact visitStart_keeps hs he
  | validReply l chars => exact validReply_keeps hs he
  | replyWindowClose l => exact event_keeps (f := fun s => s.missVisit l) hs he (State.missVisit_keeps hs l)
  | badReply l => exact event_keeps (f := fun s => s.missVisit l) hs he (State.missVisit_keeps hs l)
  | breakDetected l => exact breakDetected_keeps hs he
  | tick => exact event_keeps hs he (State.ticked_keeps hs)
  | breakLevelChange l atBreak => exact breakLevelChange_keeps hs he
  | frameSent l => exact frameSent_keeps hs he
  | malformedRequest bytes => exact malformedRequest_keeps hs he

/-- Every step keeps what holds at all times. -/
theorem step_keeps (he : step s = .next t) : s.KeepsAll t := by
  unfold step at he
  split at he
  · cases he
    exact .refl hs _
  · rename_i c cs hpending
    have hrest : s.KeepsAll { s with pending := cs } :=
      .aside hs (hs.setPending fun d hd => hs.pending d (hpending ▸ List.mem_cons_of_mem _ hd)) rfl rfl rfl rfl rfl _
    exact hrest.trans fun ht => exec_keeps ht (hs.pending c (hpending ▸ List.mem_cons_self)) he

end

/-! ## The statements -/

theorem State.talliesBut_nil (s : State) : s.TalliesBut [] ↔ s.TalliesAgree :=
  ⟨fun h z hz => h z hz List.not_mem_nil, fun h z hz _ => h z hz⟩

theorem State.darkBut_none (s : State) : s.DarkBut (fun _ => False) ↔ s.UnwatchedDark :=
  ⟨fun h b hb hcls hw => h b hb hcls hw id, fun h b hb hcls hw _ => h b hb hcls hw⟩

theorem State.linesBut_none (s : State) : s.LinesBut (fun _ => False) ↔ s.LinesFollowNodes :=
  ⟨fun h l hl => h l hl id, fun h l hl _ => h l hl⟩

/-- Settles O6, from what every command keeps. -/
theorem recordsStayLegal : Obligations.RecordsStayLegal := fun _ _ hs he => (step_keeps hs he).legal

/-- Settles O8, from what every command keeps. -/
theorem talliesFollowBays : Obligations.TalliesFollowBays := fun s t hs h he =>
  t.talliesBut_nil.mp ((step_keeps hs he).tallies (s.talliesBut_nil.mpr h))

/-- Settles O11, from what every command keeps. -/
theorem unwatchedBaysStayDark : Obligations.UnwatchedBaysStayDark := fun s t hs h he =>
  t.darkBut_none.mp ((step_keeps hs he).dark (s.darkBut_none.mpr h))

/-- Settles O12, from what every command keeps. -/
theorem oneStepAtATime : Obligations.OneStepAtATime := fun _ _ hs h he => (step_keeps hs he).sequencers h

/-- Settles O13, from what every command keeps. -/
theorem figuresFollowInputs : Obligations.FiguresFollowInputs := fun _ _ hs h he => (step_keeps hs he).figures h

end Sys2Proof.Machine
end

section
/-! CERTIFICATE. What every step keeps of the bindings, the FREE zones, the lines and a part held in RESET. -/

namespace Sys2Proof.Machine

/-! ## The phase -/

theorem State.transaction_phase {s : State} {n code : Nat} {owner : State → State × OwnerAnswer}
    (h : (owner s).1.phase = s.phase) : (s.transaction n code owner).phase = s.phase := by
  rcases s.transaction_cases n code owner with heq | heq | ⟨r, -, heq⟩ | ⟨-, heq⟩ <;> rw [heq]
  · rfl
  · exact h

theorem State.readTransaction_phase (s : State) (n : Nat) : (s.readTransaction n).phase = s.phase := by
  unfold State.readTransaction
  split
  · rfl
  · rcases s.serve_cases fun s => (s.readOut n).withOutputs with ⟨-, heq⟩ | ⟨-, -, heq⟩ | ⟨-, -, heq⟩ <;> rw [heq]
    show (s.readOut n).phase = s.phase
    unfold State.readOut
    split <;> rfl

/-- No command but RESET_ASSERT holds the part in RESET (R185). -/
theorem phase_of_exec {c : Instr} {s t : State} (hc : c ≠ .resetAssert) (he : exec c s = .next t) (ht : t.phase = .held) :
    s.phase = .held := by
  refine Classical.byContradiction fun hs => ?_
  cases carriedOut c with
  | request code params owner _ he' answers =>
    cases (he' s).symm.trans he
    exact hs ((State.transaction_phase (answers s).link.phase).symm.trans ht)
  | event effect _ he' link =>
    have heq := ((he' s).trans (event_eq s effect)).symm.trans he
    rw [if_neg hs] at heq
    cases heq
    exact hs ((link s).phase.symm.trans ht)
  | read n hc =>
    subst hc
    cases he
    exact hs ((s.readTransaction_phase n).symm.trans ht)
  | malformed bytes hc =>
    subst hc
    cases bytes with
    | nil =>
      cases he
      exact hs ht
    | cons b rest =>
      by_cases hb : b = readByte
      · cases (if_pos hb).symm.trans he
        exact hs ((s.readTransaction_phase _).symm.trans ht)
      · cases (if_neg hb).symm.trans he
        exact hs ((State.transaction_phase rfl).symm.trans ht)
  | reset h =>
    rcases h with rfl | rfl
    · exact hc rfl
    · cases he
      cases ht
  | startUpEnd hc =>
    subst hc
    obtain ⟨begun, heq⟩ := exec_startUpEnd s
    cases heq.symm.trans he
    split at ht
    · cases ht
    · exact hs ht
  | input l b hc =>
    subst hc
    by_cases hl : l < Config.lineCount
    · cases (if_pos hl).symm.trans he
      exact hs ht
    · cases (if_neg hl).symm.trans he
      exact hs ht

/-! ## A part held in RESET -/

/-- A receive input that moves leaves a part at its power-on values there (R185; log entry 7). -/
theorem State.HeldAtPowerOn.input {s : State} (hs : s.phase = .held) (h : s.HeldAtPowerOn) (l : Nat) (b : Bool) :
    (s.setLine l ((s.line l).received b)).withOutputs.HeldAtPowerOn := by
  obtain ⟨hrecord, hlines⟩ := h hs
  let u := s.setLine l ((s.line l).received b)
  have hline : ∀ i, u.line i = { Line.powerOn with rxBreak := (u.line i).rxBreak } := fun i => by
    by_cases hi : i = l
    · have hself : u.line l = (s.line l).received b := State.line_setLine_self _ _ _
      subst hi
      rw [hself, Line.received, hlines i]
      simp [Line.powerOn]
    · rw [State.line_setLine, if_neg hi]
      exact hlines i
  have hzone : ∀ z, u.zone z = Zone.powerOn := fun z => by
    show s.zone z = _
    rw [hrecord]
    rfl
  have hout : u.withOutputs.out = State.reset.out := by
    have hbuffer : u.buffer = none := (congrArg State.buffer hrecord :)
    have hsite : u.sitePending = 0#16 := (congrArg State.sitePending hrecord :)
    have hidle : ∀ i, (u.line i).state = .idle := fun i => by rw [hline i]; rfl
    simp [State.withOutputs, State.rdyLevel, State.attnLevel, State.purgeLevel, State.faultLevel, hbuffer, hsite, hzone,
      hidle, Zone.powerOn, State.reset]
  refine fun _ => ⟨?_, hline⟩
  have hwritten : u = { State.reset with phase := .held, lines := u.lines, choices := u.choices, pending := u.pending } :=
    congrArg (fun x : State => { x with lines := u.lines }) hrecord
  exact congrArg (fun x : State => { x with out := State.reset.out }) hwritten ▸ hout ▸ rfl

theorem exec_heldAtPowerOn {c : Instr} {s t : State} (h : s.HeldAtPowerOn) (he : exec c s = .next t) : t.HeldAtPowerOn := by
  by_cases hassert : c = .resetAssert
  · subst hassert
    cases he
    exact s.poweredOn_heldAtPowerOn .held
  · intro ht
    have hs := phase_of_exec hassert he ht
    by_cases hrelease : c = .resetRelease
    · subst hrelease
      cases he
      cases ht
    · by_cases hinput : ∃ l b, c = .breakLevelChange l b
      · obtain ⟨l, b, rfl⟩ := hinput
        by_cases hl : l < Config.lineCount
        · cases (if_pos hl).symm.trans he
          exact h.input hs l b ht
        · cases (if_neg hl).symm.trans he
          exact h ht
      · obtain ⟨-, -, -, hgate⟩ := startUpAndResetGateTheCommands s
        cases (hgate hs c hassert hrelease fun l b heq => hinput ⟨l, b, heq⟩).symm.trans he
        exact h ht

theorem step_heldAtPowerOn {s t : State} (h : s.HeldAtPowerOn) (he : step s = .next t) : t.HeldAtPowerOn := by
  unfold step at he
  split at he
  · cases he
    exact h
  · rename_i c cs _
    refine exec_heldAtPowerOn (s := { s with pending := cs }) (fun hp => ?_) he
    obtain ⟨hrecord, hlines⟩ := h hp
    exact ⟨congrArg (fun x : State => { x with pending := cs }) hrecord, hlines⟩

/-- Settles O14, from what every command keeps. -/
theorem bindingsStaySound : Obligations.BindingsStaySound := fun s t hs he => by
  have hkept := step_keeps hs he
  exact ⟨hkept.bindings, hkept.free, fun h => t.linesBut_none.mp (hkept.lines (s.linesBut_none.mpr h)),
    fun h => step_heldAtPowerOn h he⟩

end Sys2Proof.Machine
end

section
/-! CERTIFICATE. One bay changed with its hand-overs: the closed flag, a hold released, the timers of a bay, a hold placed. -/

namespace Sys2Proof.Machine

/-! ## One change of the bay table -/

theorem writeBays_zones (s : State) (changes : List (Nat × Bay)) : (writeBays s changes).zones = s.zones :=
  foldl_field (·.zones) (fun s (e : Nat × Bay) => s.setBay e.1 e.2) (fun _ _ => rfl) changes s

/-- A zone counted afresh takes the count of its bays, and no other zone moves (R18). -/
theorem State.zone_retallies (zs : List Nat) (s : State) (z : Nat) :
    (zs.foldl State.retally s).zone z = if z ∈ zs then (s.zone z).takeTallies (s.tallyOf z) else s.zone z := by
  induction zs generalizing s with
  | nil => rfl
  | cons y zs ih =>
    have hair := (s.retally_handOver y).frame.zones z
    have htally : (s.retally y).tallyOf z = s.tallyOf z :=
      State.tallyOf_congr (s.retally_handOver y).bays hair.inUse hair.shed
    rw [List.foldl_cons, ih, htally, State.retally, State.zone_putZone]
    by_cases hy : z = y
    · subst hy
      have hagain : ((s.zone z).takeTallies (s.tallyOf z)).takeTallies (s.tallyOf z)
          = (s.zone z).takeTallies (s.tallyOf z) := by
        have hsame := Zone.takeTallies_same ((s.zone z).takeTallies (s.tallyOf z))
        rwa [Zone.takeTallies_tallies] at hsame
      simp [hagain]
    · simp [hy]

/-- The tallies that a change of the bay table leads to are those of the records it writes. -/
theorem State.tallyOf_censusChange (s : State) (changes : List (Nat × Bay)) (z : Nat) :
    (s.censusChange changes).tallyOf z = (writeBays s changes).tallyOf z := by
  obtain ⟨hframe, hbays, -⟩ := s.censusChange_frame changes
  have hair := hframe.zones z
  have hzone := State.zone_of_zones (writeBays_zones s changes) z
  exact State.tallyOf_congr hbays (hzone ▸ hair.inUse) (hzone ▸ hair.shed)

/-- A zone that a change of the bay table touches takes the count of its bays, and no other zone moves (R18). -/
theorem State.zone_censusChange (s : State) (changes : List (Nat × Bay)) (z : Nat) :
    (s.censusChange changes).zone z = if ∃ e ∈ changes, z = (s.bay e.1).zone ∨ z = e.2.zone then
      (s.zone z).takeTallies ((s.censusChange changes).tallyOf z) else s.zone z := by
  have hzones : (s.censusChange changes).zone z
      = ((distinct (changes.flatMap fun e => [(s.bay e.1).zone, e.2.zone])).foldl State.retally (writeBays s changes)).zone z :=
    State.zone_of_zones ((State.lightsOfRows_zones _ _).trans (State.signsOver_zones _ _)) z
  rw [hzones, State.zone_retallies, s.tallyOf_censusChange, State.zone_of_zones (writeBays_zones s changes)]
  simp only [mem_distinct, List.mem_flatMap, List.mem_cons, List.not_mem_nil, or_false]

/-- The tallies of a zone that a change of the bay table touches agree with the bays after it (R18). -/
theorem State.tallies_censusChange {s : State} {changes : List (Nat × Bay)} {z : Nat}
    (hz : ∃ e ∈ changes, z = (s.bay e.1).zone ∨ z = e.2.zone) :
    ((s.censusChange changes).zone z).tallies = (s.censusChange changes).tallyOf z := by
  rw [s.zone_censusChange, if_pos hz, Zone.takeTallies_tallies]

/-- One bay changed with its hand-overs (R18). -/
theorem State.oneBay_change (s : State) (b : Nat) (x : Bay) : s.BayChange (s.censusChange [(b, x)]) b x where
  bay := by rw [s.censusChange_one_bay, if_pos rfl]
  bays i hi := by rw [s.censusChange_one_bay, if_neg hi]
  zones z hold hnew := by
    rw [s.zone_censusChange, if_neg]
    rintro ⟨e, he, hz⟩
    rw [List.mem_singleton.mp he] at hz
    exact hz.elim hold hnew
  tallies z hz := State.tallies_censusChange ⟨_, List.mem_singleton_self _, hz⟩
  frame := (s.censusChange_frame _).1

/-- The response placed and the pins are no part of what a change of a bay is said to do. -/
theorem State.BayChange.of_same {s t u : State} {b : Nat} {x : Bay} (h : s.BayChange t b x)
    (hu : u = { t with buffer := u.buffer, miso := u.miso, out := u.out }) : s.BayChange u b x := by
  rw [hu]
  exact ⟨h.bay, h.bays, h.zones, h.tallies, { h.frame with }⟩

theorem State.BayChange.answered {s t : State} {b : Nat} {x : Bay} (h : s.BayChange t b x) (n code : Nat) (r : Reason)
    (p : List Byte) : s.BayChange (t.answered n code r p) b x := h.of_same rfl

theorem State.BayChange.withOutputs {s t : State} {b : Nat} {x : Bay} (h : s.BayChange t b x) :
    s.BayChange t.withOutputs b x := h.of_same rfl

/-! ## The closed flag and the release of a hold -/

theorem State.closeBay_eq {s : State} {b : Nat} (hb : b < 2048) (hservice : (s.bay b).cls ≠ .retired) (f : Bool) :
    s.closeBay b f = if (s.bay b).closed = f then (s, doneEmpty)
      else (s.censusChange [(b, { s.bay b with closed := f })], doneEmpty) := by
  have hrange : ¬ bayInRange b = false := by simp [bayInRange, hb, Config.bayCount]
  rw [State.closeBay, if_neg hrange, if_neg hservice]

/-- Settles O21. -/
theorem closeOpenAndReleaseChangeTheBay : Obligations.CloseOpenAndReleaseChangeTheBay := by
  intro s b h ho hb
  have hrange : ¬ bayInRange b = false := by simp [bayInRange, hb, Config.bayCount]
  refine ⟨fun c code f hc => ?_, fun hnone => ?_, fun hsome => ?_⟩
  · have hrequest : ∃ params, c.request = some (code, params) ∧ params.length = 2
        ∧ exec c s = request c s fun s => s.closeBay b f := by
      simp only [List.mem_cons, Prod.mk.injEq, List.not_mem_nil, or_false] at hc
      rcases hc with ⟨rfl, rfl, rfl⟩ | ⟨rfl, rfl, rfl⟩ <;> exact ⟨_, rfl, rfl, rfl⟩
    obtain ⟨params, hparams, hlen, hexec⟩ := hrequest
    have hclocked : 7 = 5 + params.length := by omega
    rw [hexec, hclocked]
    refine ⟨fun hretired => ?_, fun hservice hsame => ?_, fun hservice hmoves => ?_⟩
    · exact request_refused hparams h ho (by rw [State.closeBay, if_neg hrange, if_pos hretired])
    · have howner := (State.closeBay_eq hb hservice f).trans (if_pos hsame)
      exact request_answered_exact (owner := fun s => s.closeBay b f) hparams h howner ho
    · have howner := (State.closeBay_eq hb hservice f).trans (if_neg hmoves)
      exact ⟨_, request_answered (owner := fun s => s.closeBay b f) hparams h howner, rfl,
        (s.oneBay_change b _).answered _ _ _ _⟩
  · exact request_refused (c := .holdRelease b) rfl h ho (by rw [if_neg hrange, if_pos (by simp [hnone])])
  · refine ⟨_, request_answered (c := .holdRelease b) (t := s.endHold b) (a := doneEmpty) rfl h ?_, rfl,
      (s.oneBay_change b _).answered _ _ _ _⟩
    rw [if_neg hrange, if_neg (by simpa using hsome)]

/-! ## The timers of a bay -/

/-- The zone of a bay whose hold ends keeps the events that are not of its tallies (R172). -/
theorem State.isIn_endHold (s : State) (b z : Nat) {k : EventKind} (hk : ¬ k.ofDemand) :
    k.isIn ((s.endHold b).zone z).pending = k.isIn (s.zone z).pending := by
  unfold State.endHold
  rw [State.zone_censusChange]
  split
  · exact (Zone.takeTallies_keeps _ _).events k hk
  · rfl

/-- An event raised in a zone leaves what a change of a bay is said to do. -/
theorem State.BayChange.raiseZone {s t : State} {b : Nat} {x : Bay} (h : s.BayChange t b x) (k : EventKind) {z : Nat}
    (hz : z = (s.bay b).zone) : s.BayChange (t.raiseZone k z) b x := by
  have hair : ∀ y, (t.zone y).SameAir ((t.raiseZone k z).zone y) ∧ ((t.raiseZone k z).zone y).tallies = (t.zone y).tallies :=
    fun y => by
      rw [State.raiseZone, State.zone_setZone]
      split
      · rename_i heq
        rw [heq]
        exact ⟨⟨rfl, rfl, rfl, rfl, rfl, rfl, rfl, rfl, rfl⟩, rfl⟩
      · exact ⟨.refl _, rfl⟩
  refine ⟨h.bay, h.bays, fun y hy hy' => ?_, fun y hy => ?_, { h.frame with zones := fun y => (h.frame.zones y).trans (hair y).1 }⟩
  · rw [State.raiseZone, State.zone_setZone, if_neg (hz ▸ hy)]
    exact h.zones y hy hy'
  · rw [(hair y).2, State.tallyOf_congr (s := t) (t := t.raiseZone k z) rfl (hair y).1.inUse (hair y).1.shed]
    exact h.tallies y hy

/-- The event that a lapse raises stands in the zone's set where its mask has it (R12, R172). -/
theorem State.isIn_lapsed (s : State) (b : Nat) :
    EventKind.isIn .holdLapsed (((s.endHold b).raiseZone .holdLapsed (s.bay b).zone).zone (s.bay b).zone).pending
      = (EventKind.isIn .holdLapsed (s.zone (s.bay b).zone).pending
        || EventKind.isIn .holdLapsed (s.zone (s.bay b).zone).cfg.mask) := by
  have hself : ((s.endHold b).raiseZone .holdLapsed (s.bay b).zone).zone (s.bay b).zone
      = ((s.endHold b).zone (s.bay b).zone).raise .holdLapsed := State.zone_setZone_self _ _ _
  have hcfg : ((s.endHold b).zone (s.bay b).zone).cfg = (s.zone (s.bay b).zone).cfg :=
    ((s.censusChange_frame _).1.zones (s.bay b).zone).cfg
  have hkept := s.isIn_endHold b (s.bay b).zone (k := .holdLapsed) (by simp [EventKind.ofDemand])
  rw [hself, Zone.raise, EventKind.isIn_raised, hkept, hcfg]
  simp

/-- Settles O22. -/
theorem bayTimersMoveTheBay : Obligations.BayTimersMoveTheBay := by
  intro s b hheld
  refine ⟨fun hdue hcensus => ?_, fun hdue hcensus => ?_, fun x hhold hdue => ?_⟩
  · refine ⟨_, event_running hheld _, ?_⟩
    simp only [hcensus, hdue, and_self, if_true]
    exact ⟨(s.censusChange_frame _).2.2.1, (s.oneBay_change b _).withOutputs⟩
  · refine ⟨_, event_running hheld _, ?_⟩
    simp only [hcensus, hdue, and_self, if_true]
    exact ⟨(s.censusChange_frame _).2.2.1, (s.oneBay_change b _).withOutputs⟩
  · have hlapsed : (s.bay b).holdDue = true := by simp [Bay.holdDue, hhold, hdue]
    have hframe := s.censusChange_frame [(b, { s.bay b with hold := none })]
    refine ⟨_, event_running hheld _, ?_⟩
    simp only [hlapsed, if_true]
    exact ⟨hframe.2.2.1, ((s.oneBay_change b _).raiseZone .holdLapsed rfl).withOutputs, s.isIn_lapsed b⟩

/-! ## Holds placed by the host -/

/-- The check of R11 for a hold of the host (R11, R145). -/
theorem State.holdAllowed_host (s : State) (b : Nat) : s.holdAllowed b 8 = true ↔
    ((s.bay b).closed = false ∧ (s.bay b).census = .vacant ∧ (s.bay b).hold = none ∧ (s.zone (s.bay b).zone).inUse = true)
      ∧ ((s.bay b).cls = .staff ∨ ((s.bay b).cls ≠ .retired ∧ ¬ ((s.zone (s.bay b).zone).hostShed = true
        ∨ (s.zone (s.bay b).zone).band = .high ∨ (s.zone (s.bay b).zone).band = .purge))) := by
  have hsheds : ∀ x : Band, x.sheds = true ↔ x = .high ∨ x = .purge := fun x => by cases x <;> simp [Band.sheds]
  have hclass : ∀ c : BayClass, c.offerable = true ↔ c ≠ .staff ∧ c ≠ .retired := fun c => by
    cases c <;> simp [BayClass.offerable]
  simp only [State.holdAllowed, State.offered, Bay.offeredIn, Zone.shed, Config.hostEntrance, decide_true, Bool.true_and,
    Bool.or_eq_true, Bool.and_eq_true, Bool.not_eq_true', decide_eq_true_eq, Option.isNone_iff_eq_none, hclass,
    Bool.and_eq_false_iff, Bool.or_eq_false_iff, ← Bool.not_eq_true (Band.sheds _), hsheds]
  by_cases hstaff : (s.bay b).cls = .staff
  · simp [hstaff, and_assoc, and_comm]
  · simp only [hstaff, ne_eq, not_false_eq_true, true_and, false_and, or_false, false_or, not_or]
    grind

/-- A bay that a selection chooses is offered (R143). -/
theorem State.offered_of_selection {s : State} {e : Nat} {c : BayClass} {b : Nat} (h : s.selection e c = some b) :
    s.offered (s.bay b) = true := by
  have hlowest : ∀ {k z}, s.lowestOffered k z = some b → s.offered (s.bay b) = true := fun h => by
    have hfound := List.find?_some h
    simp only [Bool.and_eq_true] at hfound
    exact hfound.2
  obtain ⟨z, -, hbay⟩ := State.selection_some h
  unfold State.chooseBay at hbay
  split at hbay
  · rename_i b' hb'
    exact hlowest (hb'.trans hbay)
  · split at hbay
    · exact hlowest hbay
    · cases hbay

theorem State.placeHold_eq (s : State) (b ticket : Nat) : s.placeHold b ticket Config.hostEntrance
    = if s.holdAllowed b 8 = true then
        some (s.censusChange [(b, { s.bay b with hold := some ⟨ticket, 8, s.site.holdTicks⟩ })]) else none := rfl

/-- Settles O25. -/
theorem holdPlacePlacesAHostHold : Obligations.HoldPlacePlacesAHostHold := by
  refine ⟨fun s b ticket h ho hb hticket => ?byBay, fun s e k ticket c h ho he hticket hk hc => ?best⟩
  case byBay =>
    intro x z free allowed
    have hrange : ¬ (bayInRange b && decide (ticket ≤ 65535)) = false := by simp [bayInRange, hb, hticket, Config.bayCount]
    have hallowed : s.holdAllowed b 8 = true ↔ allowed := s.holdAllowed_host b
    refine ⟨fun hyes => ?_, fun hno => ?_⟩
    · refine ⟨_, request_answered (c := .holdPlaceByBay b ticket) rfl h (a := ⟨.done, s.holdPayload b⟩)
        (t := s.censusChange [(b, { s.bay b with hold := some ⟨ticket, 8, s.site.holdTicks⟩ })]) ?_, rfl,
        (s.oneBay_change b _).answered _ _ _ _⟩
      rw [if_neg hrange, State.placeHold_eq, if_pos (hallowed.mpr hyes)]
      rfl
    · refine request_refused (c := .holdPlaceByBay b ticket) rfl h ho ?_
      rw [if_neg hrange, State.placeHold_eq, if_neg (hno ∘ hallowed.mp)]
  case best =>
    have hclass : offerableOfCode k = some c := by
      unfold offerableOfCode
      rw [hc]
      match k, hk with
      | 0, _ | 1, _ | 2, _ | 3, _ => cases hc; rfl
    have hrange : ¬ (decide (e < Config.entranceCount) && decide (ticket ≤ 65535)) = false := by
      simp [he, hticket, Config.entranceCount]
    refine ⟨fun hnone => ?_, fun b hb => ?_⟩
    · refine request_refused (c := .holdPlaceBest e k ticket) rfl h ho ?_
      rw [hclass]
      simp only
      rw [if_neg hrange, hnone]
    · have hallowed : s.holdAllowed b 8 = true := by simp [State.holdAllowed, State.offered_of_selection hb]
      refine ⟨_, request_answered (c := .holdPlaceBest e k ticket) rfl h (a := ⟨.done, s.holdPayload b⟩)
        (t := s.censusChange [(b, { s.bay b with hold := some ⟨ticket, 8, s.site.holdTicks⟩ })]) ?_, rfl,
        (s.oneBay_change b _).answered _ _ _ _⟩
      rw [hclass]
      simp only
      rw [if_neg hrange, hb]
      simp only
      rw [State.placeHold_eq, if_pos hallowed]
      rfl

end Sys2Proof.Machine
end

section
/-! SUPPORT. The re-evaluation of an IDLE sequencer, case by case (R120), and what one change of a zone record shows of it. -/

namespace Sys2Proof.Machine

variable {z : Zone}

/-! ## One stage changed -/

theorem Zone.stages_changeStage (z : Zone) (i : Nat) (f : Stage → Stage) (k : Nat) :
    (z.changeStage i f).stages[k]? = if k = i then z.stages[k]?.map f else z.stages[k]? := getElem?_changeAt f z.stages i k

/-- One stage changed, read at every place. -/
theorem Zone.stages_changeStage_of {i : Nat} {g : Stage} (hg : z.stages[i]? = some g) (f : Stage → Stage) (k : Nat) :
    (z.changeStage i f).stages[k]? = if k = i then some (f g) else z.stages[k]? := by
  rw [z.stages_changeStage]
  split
  · rename_i hk
    rw [hk, hg]
    rfl
  · rfl

/-- The count of RUNNING stages stays when a stage changes that neither was nor is RUNNING. -/
theorem Zone.c_changeStage {i : Nat} {g : Stage} (hg : z.stages[i]? = some g) {f : Stage → Stage} (hold : g.status ≠ .running)
    (hnew : (f g).status ≠ .running) : (z.changeStage i f).c = z.c := by
  refine countP_changeAt _ f z.stages i fun x hx => ?_
  cases hg.symm.trans hx
  simp [hold, hnew]

/-! ## The steps -/

/-- The stage that a step up starts: the lowest-numbered IDLE one (R121). -/
structure Zone.FirstIdle (z : Zone) (j : Nat) (h : Stage) : Prop where
  place : z.stages[j]? = some h
  idle : h.status = .idle
  first : ∀ k, k < j → ∀ g, z.stages[k]? = some g → g.status ≠ .idle

theorem Zone.FirstIdle.firstPlace {j : Nat} {h : Stage} (hj : z.FirstIdle j h) :
    firstPlace (fun g => decide (g.status = .idle)) z.stages = some j :=
  firstPlace_eq_some.mpr ⟨⟨h, hj.place, decide_eq_true hj.idle⟩, fun k hk g hg => decide_eq_false (hj.first k hk g hg)⟩

theorem Zone.stepUp_first {j : Nat} {h : Stage} (hj : z.FirstIdle j h) :
    z.stepUp = { z.changeStage j (Stage.start z.cfg.proofTicks) with seq := .stepUp } := by
  unfold Zone.stepUp
  rw [hj.firstPlace]

theorem Zone.firstPlace_none (h : ∀ g ∈ z.stages, g.status ≠ .idle) :
    firstPlace (fun g => decide (g.status = .idle)) z.stages = none :=
  firstPlace_eq_none.mpr fun g hg => decide_eq_false (h g hg)

theorem Zone.stepUp_none (h : ∀ g ∈ z.stages, g.status ≠ .idle) : z.stepUp = z.endShort := by
  unfold Zone.stepUp
  rw [Zone.firstPlace_none h]

theorem Zone.endShort_eq {q : Sequence} (hq : z.sequence = some q) :
    z.endShort = { z with sequence := none, last := ⟨q.origin, q.goal, q.steps, .short⟩, shortHold := true, seq := .idle,
                          pending := raised z.cfg.mask .stageShort z.pending } := by
  unfold Zone.endShort
  rw [Zone.endSequence_some hq]
  rfl

theorem Zone.stepDown_last {j : Nat} {h : Stage} (hj : z.stages[j]? = some h) (hrun : h.status = .running)
    (hlast : ∀ k, j < k → ∀ g, z.stages[k]? = some g → g.status ≠ .running) :
    z.stepDown = Zone.figures { z.changeStage j (Stage.stop z.cfg.rundownTicks) with seq := .stepDown } := by
  have hplace : lastPlace (fun g => decide (g.status = .running)) z.stages = some j :=
    lastPlace_eq_some hj (decide_eq_true hrun) fun k hk g hg => decide_eq_false (hlast k hk g hg)
  unfold Zone.stepDown
  rw [hplace]

/-! ## The re-evaluation (R120) -/

/-- The record in the sequence that a step in direction `d` belongs to (R120). -/
def Zone.inSequence (z : Zone) (d : Direction) : Zone :=
  { z with sequence := some (z.sequenceToward d), last := z.lastToward d }

theorem Zone.sequenceToward_goal (z : Zone) (d : Direction) : (z.sequenceToward d).goal = z.target := by
  unfold Zone.sequenceToward
  split
  · split <;> rfl
  · rfl

/-- A re-evaluation whose target lies in direction `d` steps that way, in the sequence in progress or in a new one (R120). -/
theorem Zone.reEvaluate_toward {d : Direction} (hready : z.sequence ≠ none ∨ z.shortHold = false) (hside : z.onSide d = true) :
    z.reEvaluate = (z.inSequence d).step d := by
  have hne : z.target ≠ z.c := fun heq => by cases d <;> simp [Zone.onSide, heq] at hside
  have hdir : (if z.c < z.target then Direction.up else Direction.down) = d := by
    cases d <;> simp only [Zone.onSide, decide_eq_true_eq] at hside
    · rw [if_pos hside]
    · rw [if_neg (Nat.not_lt.mpr (Nat.le_of_lt hside))]
  have hother : ∀ q : Sequence, q.dir ≠ d → z.onSide q.dir = false := fun q hq => by
    cases d <;> cases hqd : q.dir <;> simp_all [Zone.onSide, Nat.le_of_lt]
  unfold Zone.reEvaluate
  cases hq : z.sequence with
  | none =>
    have hno : ¬ (z.target = z.c ∨ z.shortHold = true) := by
      rw [not_or]
      exact ⟨hne, by simpa [hq] using hready⟩
    simp only [if_neg hno, Zone.beginSequence, hdir, Zone.inSequence, Zone.sequenceToward, Zone.lastToward, hq]
  | some q =>
    simp only [if_neg hne, Zone.inSequence, Zone.sequenceToward, Zone.lastToward, hq]
    by_cases hqd : q.dir = d
    · simp only [hqd, hside, if_true]
    · have hcut := Zone.endSequence_some hq .cut
      have hcDir : (if (z.endSequence .cut).c < (z.endSequence .cut).target then Direction.up else Direction.down) = d := by
        rw [hcut]
        exact hdir
      simp only [hother q hqd, if_neg hqd, Bool.false_eq_true, if_false, Zone.beginSequence, hcDir]
      rw [hcut]
      rfl

/-- An IDLE sequencer re-evaluates by the table of R120. -/
theorem Zone.reEvaluate_reEvaluated (hidle : z.seq = .idle) : z.ReEvaluated z.reEvaluate where
  rests hnone hrest := by
    unfold Zone.reEvaluate
    rw [hnone]
    exact if_pos hrest
  done q hq htarget := by
    unfold Zone.reEvaluate
    rw [hq]
    exact (if_pos htarget).trans (Zone.endSequence_some hq .done)
  up j h hready hside hj hstatus hfirst := by
    rw [Zone.reEvaluate_toward hready (d := .up) (decide_eq_true hside), Zone.step,
      Zone.stepUp_first (z := z.inSequence .up) ⟨hj, hstatus, hfirst⟩]
    exact ⟨rfl, Zone.stages_changeStage_of (z := z.inSequence .up) hj _⟩
  short hready hside hnone := by
    rw [Zone.reEvaluate_toward hready (d := .up) (decide_eq_true hside), Zone.step,
      Zone.stepUp_none (z := z.inSequence .up) hnone, Zone.endShort_eq (z := z.inSequence .up) rfl, Zone.inSequence,
      z.sequenceToward_goal, ← hidle]
  down j h hready hside hj hrun hlast := by
    rw [Zone.reEvaluate_toward hready (d := .down) (decide_eq_true hside), Zone.step,
      Zone.stepDown_last (z := z.inSequence .down) hj hrun hlast]
    have hcount := countP_changeAt_add (fun g : Stage => decide (g.status = .running)) (Stage.stop z.cfg.rundownTicks) hj
    refine ⟨Zone.figures_exact _, ?_, rfl, Zone.stages_changeStage_of (z := z.inSequence .down) hj _⟩
    simp only [hrun, Stage.stop, decide_true, Bool.toNat_true, reduceCtorEq, decide_false, Bool.toNat_false, Nat.add_zero] at hcount
    exact hcount

theorem Zone.tellSequencer_idle (hidle : z.seq = .idle) : z.tellSequencer = Zone.reEvaluate { z with shortHold := false } :=
  if_pos hidle

theorem Zone.tellSequencer_busy (hbusy : z.seq ≠ .idle) : z.tellSequencer = z := if_neg hbusy

/-! ## FAULTED stages -/

/-- A stage that is FAULTED in `x` is the same in `y`. -/
def Zone.KeepsFaults (x y : Zone) : Prop :=
  ∀ (k : Nat) (g : Stage), x.stages[k]? = some g → g.status = .faulted → y.stages[k]? = some g

theorem Zone.KeepsFaults.of_stages {x y : Zone} (h : y.stages = x.stages) : x.KeepsFaults y := fun _ _ hg _ => h ▸ hg

theorem Zone.changeStage_keepsFaults {i : Nat} {g : Stage} (hg : z.stages[i]? = some g) (hs : g.status ≠ .faulted)
    (f : Stage → Stage) : z.KeepsFaults (z.changeStage i f) := fun k x hx hfault => by
  rw [Zone.stages_changeStage_of hg]
  split
  · rename_i hk
    rw [hk, hg] at hx
    cases hx
    exact absurd hfault hs
  · exact hx

theorem Zone.endShort_stages (z : Zone) : z.endShort.stages = z.stages := by
  unfold Zone.endShort Zone.endSequence
  split <;> rfl

theorem Zone.step_keepsFaults (z : Zone) (d : Direction) : z.KeepsFaults (z.step d) := by
  cases d with
  | up =>
    show z.KeepsFaults z.stepUp
    unfold Zone.stepUp
    split
    · rename_i i hi
      obtain ⟨⟨g, hg, hidle⟩, -⟩ := firstPlace_eq_some.mp hi
      exact Zone.changeStage_keepsFaults hg (fun hf => StageStatus.noConfusion ((of_decide_eq_true hidle).symm.trans hf)) _
    · exact .of_stages z.endShort_stages
  | down =>
    show z.KeepsFaults z.stepDown
    unfold Zone.stepDown
    split
    · rename_i i hi
      obtain ⟨⟨g, hg, hrun⟩, -⟩ := lastPlace_meets hi
      exact Zone.changeStage_keepsFaults hg (fun hf => StageStatus.noConfusion ((of_decide_eq_true hrun).symm.trans hf)) _
    · exact .of_stages rfl

theorem Zone.stepWith_keepsFaults (z : Zone) (q : Option Sequence) (d : Direction) :
    z.KeepsFaults (Zone.step { z with sequence := q } d) := Zone.step_keepsFaults { z with sequence := q } d

/-- A re-evaluation leaves the FAULTED stages (R120). -/
theorem Zone.reEvaluate_keepsFaults (z : Zone) : z.KeepsFaults z.reEvaluate := by
  have hended : ∀ o, (z.endSequence o).stages = z.stages := fun o => by
    unfold Zone.endSequence
    split <;> rfl
  unfold Zone.reEvaluate
  split
  · split
    · exact .of_stages rfl
    · exact z.stepWith_keepsFaults _ _
  · split
    · exact .of_stages (hended _)
    · split
      · exact z.stepWith_keepsFaults _ _
      · exact fun k g hg hfault => (z.endSequence .cut).stepWith_keepsFaults _ _ k g ((hended .cut).symm ▸ hg) hfault

/-! ## One zone record written -/

theorem State.ZoneFrame.of_same {s t u : State} {z : Nat} (h : s.ZoneFrame z t)
    (hu : u = { t with buffer := u.buffer, miso := u.miso, out := u.out }) : s.ZoneFrame z u := by
  rw [hu]
  exact { h with }

theorem State.putZone_self (s : State) (z : Nat) (x : Zone) : (s.putZone z x).zone z = x := by
  rw [State.zone_putZone, if_pos rfl]

/-- An event that writes one zone record (R117). -/
theorem putZone_event {s : State} (hheld : s.phase ≠ .held) {z : Nat} {x : Zone} {f : State → State} (hf : f s = s.putZone z x) :
    ∃ t, event s f = .next t ∧ t.buffer = s.buffer ∧ s.ZoneFrame z t ∧ t.zone z = x ∧ t.out = (s.putZone z x).withOutputs.out :=
  ⟨_, event_running hheld f, by
    rw [hf]
    exact ⟨(s.putZone_answer z x).1, (s.putZone_zoneFrame z x).of_same rfl, s.putZone_self z x, rfl⟩⟩

end Sys2Proof.Machine
end

section
/-! CERTIFICATE. A slot gone stale, a host floor, a fan reset, and the proof timer of a stage. -/

namespace Sys2Proof.Machine

/-! ## A slot gone stale (R94) -/

theorem blindCondition_iff (l : List Slot) : blindCondition l = true ↔ l ≠ [] ∧ ∀ g ∈ l, g.fresh = false := by
  cases l <;> simp [blindCondition]

section
variable {s : State} {z : Nat} {slots : List Slot}

/-- The record that a change of the slot list leads to, its tallies moved or not (R58, R59, R94, R95). -/
theorem State.changeZone_withSlots (s : State) (z : Nat) (slots : List Slot) :
    ((s.zone z).reslotted slots).SameAir ((s.changeZone z ((s.zone z).withSlots slots)).zone z)
      ∧ ((s.zone z).reslotted slots).DemandKeeps ((s.changeZone z ((s.zone z).withSlots slots)).zone z) := by
  have hretallied := s.changeZone_retallied z ((s.zone z).withSlots slots)
  exact ⟨((s.zone z).handOn_air _).trans hretallied.air, ((s.zone z).handOn_keeps _).trans hretallied.keeps⟩

theorem Zone.isIn_reslotted (x : Zone) (slots : List Slot) : EventKind.isIn .blind (x.reslotted slots).pending
    = (EventKind.isIn .blind x.pending || (blindCondition slots && !x.blind && EventKind.isIn .blind x.cfg.mask)) :=
  (Zone.isIn_reviewBlind (z := { x with slots := slots }) .blind).trans (by simp)

end

/-- Settles O51. -/
theorem ageTimerMakesTheSlotStale : Obligations.AgeTimerMakesTheSlotStale := by
  intro s z i g hheld hs hz hg hfresh hage
  have hdue : 1 ≤ i + 1 ∧ (s.zone z).slotDue (i + 1 - 1) = true :=
    ⟨Nat.le_add_left 1 i, Zone.slotDue_iff.mpr ⟨g, hg, hfresh, hage⟩⟩
  refine ⟨_, event_running hheld _, ?_⟩
  rw [if_pos hdue]
  let slots := changeAt Slot.goStale (s.zone z).slots i
  obtain ⟨hair, hkeeps⟩ := s.changeZone_withSlots z slots
  have heq := (s.zone z).reslotted_eq slots
  have hretallied := s.changeZone_retallied z ((s.zone z).withSlots slots)
  let y := (s.changeZone z ((s.zone z).withSlots slots)).zone z
  have hyslots : y.slots = slots := hair.slots.trans (by rw [heq])
  have hyI : y.I = indexOf slots := hair.I.trans (by rw [heq])
  have hyblind : y.blind = blindCondition slots := hair.blind.trans (by rw [heq])
  have hbefore : (s.zone z).blind = false := by
    obtain ⟨-, -, -, -, -, -, hblind, -⟩ := hs.zone z
    rw [hblind]
    exact blindCondition_of_fresh _ ⟨g, List.mem_of_getElem? hg, hfresh⟩
  have hne : slots ≠ [] := fun hnil => by
    have hlen := changeAt_length Slot.goStale (s.zone z).slots i
    rw [show changeAt Slot.goStale (s.zone z).slots i = [] from hnil] at hlen
    rw [List.length_eq_zero_iff.mp hlen.symm] at hg
    cases hg
  refine ⟨(s.changeZone_answer z _).1, (s.changeZone_frame z _).of_same rfl, fun j => ?_, ?_, ?_, ?_, ?_, ?_, ?_, ?_, ?_⟩
  · show y.slots[j]? = _
    rw [hyslots, getElem?_changeAt]
    split
    · rename_i hj
      rw [hj, hg]
      rfl
    · rfl
  · show ∀ h ∈ y.slots, h.fresh = true → h.n ≤ y.I
    rw [hyslots, hyI]
    exact le_indexOf slots
  · show y.I = 0 ∨ ∃ h ∈ y.slots, h.fresh = true ∧ h.n = y.I
    rw [hyslots, hyI]
    exact indexFrom_cases 0 slots
  · exact hair.S.trans (by rw [heq])
  · exact hair.band.trans (by rw [heq])
  · exact hair.cfg.trans (by rw [heq])
  · show y.blind = true ↔ ∀ h ∈ y.slots, h.fresh = false
    rw [hyblind, hyslots, blindCondition_iff]
    exact and_iff_right hne
  · show EventKind.isIn .blind y.pending = (EventKind.isIn .blind (s.zone z).pending
      || (EventKind.isIn .blind (s.zone z).cfg.mask && y.blind))
    rw [hkeeps.events .blind (by simp [EventKind.ofDemand]), Zone.isIn_reslotted, hbefore, hyblind]
    simp [Bool.and_comm]
  · exact fun h => hretallied.keeps.figures (((s.zone z).ageOut_moved i).sound.figures h)

/-! ## A host floor (R115) -/

theorem Zone.demandChange_false (z : Zone) :
    z.demandChange false = if z.figures.target = z.target then z.figures else z.figures.tellSequencer := by
  simp [Zone.demandChange]

/-- A request that writes one zone record (R117). -/
theorem putZone_request {c : Instr} {code : Nat} {params : List Byte} {s : State} {owner : State → State × OwnerAnswer} {z : Nat}
    {x : Zone} (hc : c.request = some (code, params)) (h : s.Ready) (howner : owner s = (s.putZone z x, doneEmpty)) :
    ∃ t, request c s owner = .next t ∧ t.AnsweredDone code [] ∧ s.ZoneFrame z t ∧ t.zone z = x :=
  ⟨_, request_answered hc h howner, rfl, (s.putZone_zoneFrame z x).of_same rfl, s.putZone_self z x⟩

/-- Settles O52. -/
theorem zoneFloorSetsTheFloor : Obligations.ZoneFloorSetsTheFloor := by
  intro s z f h ho
  refine ⟨fun hout => ?_, fun hz hf hfree => ?_, fun hz hf huse => ?_⟩
  · refine request_refused (c := .zoneFloor z f) rfl h ho (if_pos ?_)
    refine Classical.byContradiction fun hin => ?_
    simp only [Bool.not_eq_false, Bool.and_eq_true, zoneInRange_iff, decide_eq_true_eq] at hin
    exact hout hin
  all_goals have hrange : ¬ (zoneInRange z && decide (f ≤ 4)) = false := by simp [zoneInRange, Config.zoneCount, hz, hf]
  · exact request_refused (c := .zoneFloor z f) rfl h ho ((if_neg hrange).trans (if_pos hfree))
  · have huse' : ¬ (s.zone z).inUse = false := by simp [huse]
    obtain ⟨t, ht, hdone, hframe, hzone⟩ := putZone_request (c := .zoneFloor z f) (x := (s.zone z).floored f)
      (owner := fun s => if (zoneInRange z && decide (f ≤ 4)) = false then refuse s .range
        else if (s.zone z).inUse = false then refuse s .state else (s.putZone z ((s.zone z).floored f), doneEmpty)) rfl h
      ((if_neg hrange).trans (if_neg huse'))
    have hinputs := Zone.demandChange_inputs { s.zone z with hostFloor := f } false
    refine ⟨t, ht, hdone, hframe, hzone ▸ hinputs.air, hzone ▸ hinputs.tallies, hzone ▸ Zone.demandChange_exact _ false,
      Zone.figures { s.zone z with hostFloor := f }, rfl, Zone.figures_exact _, fun hrest => ?_, fun hidle hmoved => ?_⟩
    all_goals rw [hzone, Zone.floored, Zone.demandChange_false]
    · rcases hrest with hbusy | hsame
      · split
        · rfl
        · exact Zone.tellSequencer_busy hbusy
      · exact if_pos hsame
    · let w := Zone.figures { s.zone z with hostFloor := f }
      rw [if_neg hmoved, Zone.tellSequencer_idle (z := w) hidle]
      exact Zone.reEvaluate_reEvaluated (z := { w with shortHold := false }) hidle

/-! ## A fan reset (R126) -/

/-- Settles O53. -/
theorem fanResetReturnsTheStage : Obligations.FanResetReturnsTheStage := by
  intro s z i h ho hz hi x rest
  have hrange : ¬ (zoneInRange z && within 1 4 (i + 1)) = false := by
    simp only [Bool.not_eq_false, Bool.and_eq_true, zoneInRange_iff, within_iff]
    omega
  refine ⟨fun hbad => ?_, fun g huse hg hfault => ?_⟩
  · refine request_refused (c := .fanReset z (i + 1)) rfl h ho ((if_neg hrange).trans ?_)
    by_cases hfirst : x.inUse = false ∨ x.stages.length < i + 1
    · exact if_pos hfirst
    · refine (if_neg hfirst).trans (if_pos ?_)
      obtain ⟨g, hg, hstatus⟩ : ∃ g, x.stages[i]? = some g ∧ g.status ≠ .faulted := by
        rw [not_or] at hfirst
        exact (hbad.resolve_left hfirst.1).resolve_left fun hle => hfirst.2 (Nat.lt_succ_of_le hle)
      rw [Nat.add_sub_cancel, Zone.statusAt_eq hg]
      exact hstatus
  · have hin : ¬ (x.inUse = false ∨ x.stages.length < i + 1) := by
      have hlen := (List.getElem?_eq_some_iff.mp hg).1
      rw [not_or]
      exact ⟨by simp [huse], by omega⟩
    have hstatus : ¬ x.statusAt (i + 1 - 1) ≠ .faulted := by
      rw [Nat.add_sub_cancel, Zone.statusAt_eq hg]
      exact Classical.not_not.mpr hfault
    obtain ⟨t, ht, hdone, hframe, hzone⟩ := putZone_request (c := .fanReset z (i + 1)) (x := x.resetStage (i + 1 - 1))
      (owner := fun s => if (zoneInRange z && within 1 4 (i + 1)) = false then refuse s .range
        else if (s.zone z).inUse = false ∨ (s.zone z).stages.length < i + 1 then refuse s .state
        else if (s.zone z).statusAt (i + 1 - 1) ≠ .faulted then refuse s .state
        else (s.putZone z ((s.zone z).resetStage (i + 1 - 1)), doneEmpty))
      rfl h ((if_neg hrange).trans ((if_neg hin).trans (if_neg hstatus)))
    let w : Zone := { x.changeStage i Stage.rest with shortHold := false }
    have hstages : ∀ j, w.stages[j]? = if j = i then some (rest g) else x.stages[j]? := Zone.stages_changeStage_of hg Stage.rest
    have hc : w.c = x.c := Zone.c_changeStage hg (by simp [hfault]) (by simp [Stage.rest])
    have hzone : t.zone z = w.tellSequencer := hzone
    have hidle : x.seq = .idle → w.ReEvaluated (t.zone z) := fun hseq => by
      rw [hzone, Zone.tellSequencer_idle (z := w) hseq]
      exact Zone.reEvaluate_reEvaluated (z := w) hseq
    refine ⟨t, ht, hdone, hframe, fun hrests => ?_, fun j y hseq hnone hlt hj hstart hfirst => ?_, fun hseq =>
      ⟨w, rfl, hidle hseq, hstages⟩⟩
    · have hkept : t.zone z = w := by
        by_cases hseq : x.seq = .idle
        · obtain ⟨hnone, htarget⟩ := hrests.resolve_left (Classical.not_not.mpr hseq)
          exact (hidle hseq).rests hnone (.inl (htarget.trans hc.symm))
        · rw [hzone, Zone.tellSequencer_busy (z := w) hseq]
      rw [hkept]
      exact ⟨rfl, hstages⟩
    · have hready : w.sequence ≠ none ∨ w.shortHold = false := .inr rfl
      obtain ⟨heq, hafter⟩ := (hidle hseq).up j y hready (hc.symm ▸ hlt) ((hstages j).trans hj) hstart fun k hk v hv => by
        rw [hstages k] at hv
        split at hv
        · rename_i hki
          obtain ⟨v', hv'⟩ : ∃ v', x.stages[k]? = some v' := ⟨g, hki ▸ hg⟩
          exact absurd hki (hfirst k hk v' hv').2
        · exact (hfirst k hk v hv).1
      have hsequence : w.sequenceToward .up = ⟨.up, x.c, x.target, 0⟩ := by
        have : w.sequence = none := hnone
        rw [Zone.sequenceToward, this, ← hc]
        rfl
      have hlast : w.lastToward .up = x.last := by
        have : w.sequence = none := hnone
        rw [Zone.lastToward, this]
        rfl
      rw [hsequence, hlast] at heq
      refine ⟨heq, fun k => ?_⟩
      rw [hafter k, hstages k]
      rfl

/-! ## The proof timer (R122) -/

/-- FAULT is asserted while a stage of some zone is FAULTED (R128). -/
theorem State.fault_of_stage {s : State} {z i : Nat} {g : Stage} (hz : z < 32) (hg : (s.zone z).stages[i]? = some g)
    (hf : g.status = .faulted) : s.withOutputs.out.fault = true := by
  have hany : (zoneNumbers.any fun z => (s.zone z).stages.any fun g => decide (g.status = .faulted)) = true :=
    List.any_eq_true.mpr ⟨z, List.mem_range.mpr hz, List.any_eq_true.mpr ⟨g, List.mem_of_getElem? hg, decide_eq_true hf⟩⟩
  show s.faultLevel = true
  rw [State.faultLevel, hany, Bool.true_or]

/-- Settles O54. -/
theorem proofTimerFaultsTheStage : Obligations.ProofTimerFaultsTheStage := by
  intro s z i g q hheld hs hz hg hstart hproof hq x failed
  have hdue : 1 ≤ i + 1 ∧ (s.zone z).proofDue (i + 1 - 1) = true :=
    ⟨Nat.le_add_left 1 i, Zone.proofDue_iff.mpr ⟨g, hg, hstart, hproof⟩⟩
  obtain ⟨t, ht, hbuffer, hframe, hzone, hout⟩ := putZone_event hheld (z := z) (x := x.faultStage i .noProof)
    (f := fun s => if 1 ≤ i + 1 ∧ (s.zone z).proofDue (i + 1 - 1) = true then
      s.putZone z ((s.zone z).faultStage (i + 1 - 1) .noProof) else s) (if_pos hdue)
  let w : Zone := (x.changeStage i (Stage.fail .noProof)).raise .fanFault
  have hstages : ∀ k, w.stages[k]? = if k = i then some failed else x.stages[k]? :=
    Zone.stages_changeStage_of hg (Stage.fail .noProof)
  have hc : w.c = x.c := Zone.c_changeStage hg (by simp [hstart]) (by simp [Stage.fail])
  have hfaulted : x.faultStage i .noProof = w.stepUpFailed := by
    have hstatus : x.statusAt i = .starting := (Zone.statusAt_eq hg).trans hstart
    simp only [Zone.faultStage, hstatus]
    rfl
  have hzone : t.zone z = w.stepUpFailed := hzone.trans hfaulted
  have hself : w.stages[i]? = some failed := (hstages i).trans (if_pos rfl)
  have hnotIdle : ∀ (k : Nat) (y : Stage), x.stages[k]? = some y → y.status ≠ .idle → ∀ v : Stage, w.stages[k]? = some v → v.status ≠ .idle := by
    intro k y hy hne v hv
    rw [hstages k] at hv
    split at hv
    · cases hv
      simp [failed]
    · cases hy.symm.trans hv
      exact hne
  have hshort : w.c < w.target → (∀ h ∈ x.stages, h.status ≠ .idle) → t.zone z = w.endShort := fun hlt hnone => by
    have hplace : firstPlace (fun g => decide (g.status = .idle)) w.stages = none := Zone.firstPlace_none fun v hv => by
      obtain ⟨k, hk⟩ := List.mem_iff_getElem?.mp hv
      rw [hstages k] at hk
      split at hk
      · cases hk
        simp [failed]
      · exact hnone v (List.mem_of_getElem? hk)
    rw [hzone, Zone.stepUpFailed, if_pos hlt, hplace]
  have hstarted : ∀ j y, w.c < w.target → w.FirstIdle j y → t.zone z = w.changeStage j (Stage.start w.cfg.proofTicks) :=
    fun j y hlt hj => by rw [hzone, Zone.stepUpFailed, if_pos hlt, hj.firstPlace]
  have hidle : w.target ≤ w.c → t.zone z = Zone.reEvaluate { w with seq := .idle, dwell := 0 } := fun hle => by
    rw [hzone, Zone.stepUpFailed, if_neg (Nat.not_lt.mpr hle)]
    rfl
  have hfault : (t.zone z).stages[i]? = some failed := by
    by_cases hlt : w.c < w.target
    · rw [hzone, Zone.stepUpFailed, if_pos hlt]
      split
      · rename_i j hj
        obtain ⟨⟨y, hy, hyidle⟩, -⟩ := firstPlace_eq_some.mp hj
        have hne : y.status ≠ .faulted := fun hf => StageStatus.noConfusion ((of_decide_eq_true hyidle).symm.trans hf)
        exact Zone.changeStage_keepsFaults hy hne _ i failed hself rfl
      · rw [Zone.endShort_stages]
        exact hself
    · rw [hidle (Nat.le_of_not_lt hlt)]
      exact Zone.reEvaluate_keepsFaults { w with seq := .idle, dwell := 0 } i failed hself rfl
  refine ⟨t, ht, hbuffer, hframe, ?_, fun j y hlt hj hyidle hfirst => ?_, fun hle => ?_, fun hlt hnone => ?_⟩
  · rw [hout]
    refine State.fault_of_stage (s := s.putZone z (x.faultStage i .noProof)) (i := i) hz ?_ (rfl : failed.status = .faulted)
    rw [State.putZone_self, hfaulted, ← hzone]
    exact hfault
  · have hji : j ≠ i := fun heq => by
      rw [heq] at hj
      cases hg.symm.trans hj
      cases hstart.symm.trans hyidle
    have hplace : w.FirstIdle j y := by
      refine ⟨(hstages j).trans ((if_neg hji).trans hj), hyidle, fun k hk v hv => ?_⟩
      have hlen : k < x.stages.length := Nat.lt_trans hk (List.getElem?_eq_some_iff.mp hj).1
      exact hnotIdle k _ (List.getElem?_eq_getElem hlen) (hfirst k hk _ (List.getElem?_eq_getElem hlen)) v hv
    rw [hstarted j y (hc ▸ hlt) hplace]
    refine ⟨rfl, fun k => ?_⟩
    rw [Zone.stages_changeStage_of hplace.place, hstages k]
    by_cases hkj : k = j
    · rw [if_pos hkj, if_neg (hkj ▸ hji), if_pos hkj]
      rfl
    · rw [if_neg hkj, if_neg hkj]
  · refine ⟨{ w with seq := .idle, dwell := 0 }, ?_, rfl, hstages⟩
    rw [hidle (hc ▸ hle)]
    exact Zone.reEvaluate_reEvaluated (z := { w with seq := .idle, dwell := 0 }) rfl
  · rw [hshort (hc ▸ hlt) hnone, Zone.endShort_eq (z := w) hq]
    exact ⟨rfl, hstages⟩

end Sys2Proof.Machine
end

section
/-! CERTIFICATE. A zone configured, freed and shed: what one change of a zone record leaves in that record and in its tallies,
exactly (R19, R30 to R33), and the nodes whose open OFFER names the zone (R133). -/

namespace Sys2Proof.Machine

/-! ## The record and its tallies -/

/-- The tallies that a change of a zone record leaves to be counted are those of the record it writes. -/
theorem State.tallyOf_changeZone (s : State) (z : Nat) (x : Zone) : (s.changeZone z x).tallyOf z = (s.setZone z x).tallyOf z := by
  have hair := s.changeZone_air z x
  have hself := s.zone_setZone_self z x
  exact State.tallyOf_congr (s.changeZone_frame z x).bays (hself.symm ▸ hair.inUse) (hself.symm ▸ hair.shed)

/-- The record a zone is changed to, its tallies counted afresh where the shed condition or the use state changes (R19, R32). -/
theorem State.zone_changeZone (s : State) (z : Nat) (x : Zone) : (s.changeZone z x).zone z =
    if (s.zone z).shed = x.shed ∧ (s.zone z).inUse = x.inUse then x else x.takeTallies ((s.setZone z x).tallyOf z) := by
  have hput : (s.putZone z x).tallyOf z = (s.setZone z x).tallyOf z :=
    State.tallyOf_congr (s.putZone_bays z x) (by rw [s.putZone_self, s.zone_setZone_self])
      (by rw [s.putZone_self, s.zone_setZone_self])
  have hrecord : (if (s.zone z).shed = x.shed ∧ (s.zone z).inUse = x.inUse then s.putZone z x
      else ((s.putZone z x).retally z).signsOver [z]).zone z
      = if (s.zone z).shed = x.shed ∧ (s.zone z).inUse = x.inUse then x else x.takeTallies ((s.setZone z x).tallyOf z) := by
    split
    · exact s.putZone_self z x
    · rw [State.zone_of_zones (State.signsOver_zones _ _), State.retally, State.putZone_self, s.putZone_self, hput]
  unfold State.changeZone
  dsimp only
  split
  · exact hrecord
  · rw [State.zone_of_zones (State.lightsOfZone_zones _ _)]
    exact hrecord

/-- Tallies that were counted stay counted when a zone record is changed with its tallies as they are (R18, R32). -/
theorem State.tallies_changeZone {s : State} {z : Nat} {x : Zone} (htallies : x.tallies = (s.zone z).tallies)
    (h : (s.zone z).tallies = s.tallyOf z) : ((s.changeZone z x).zone z).tallies = (s.changeZone z x).tallyOf z := by
  rw [s.zone_changeZone, s.tallyOf_changeZone]
  split
  · rename_i hsame
    obtain ⟨hshed, hinUse⟩ := hsame
    rw [s.tallyOf_setZone hinUse.symm hshed.symm, htallies, h]
  · exact Zone.takeTallies_tallies _ _

/-- A zone that is shed or FREE offers nothing (R10, R19). -/
theorem State.offeredSum_of_closed {s : State} {z : Nat} (h : ∀ b : Bay, b.offeredIn (s.zone z) = false) :
    (s.tallyOf z).offeredSum = 0 := by
  have hadd : ∀ (l : List (Nat × Bay)) (t : Tallies), t.offeredSum = 0 →
      (l.foldl (fun t e => if e.2.countsIn z then t.add e.2 (e.2.offeredIn (s.zone z)) else t) t).offeredSum = 0 := fun l => by
    induction l with
    | nil => exact fun t ht => ht
    | cons e l ih =>
      refine fun t ht => ih _ ?_
      dsimp only
      split
      · rw [h]
        exact ht
      · exact ht
  exact hadd s.bays _ rfl

/-! ## The nodes whose open OFFER names the zone (R133) -/

theorem Node.offersZone_iff (n : Node) (z : Nat) : n.offersZone z = true ↔ ∃ e k b, n.service = .entry e (.offer k b z) := by
  unfold Node.offersZone
  rcases hv : n.service with _ | ⟨r, k, l⟩ | _ | _ | _ | ⟨e, _ | ⟨k, b, y⟩ | k⟩ <;> simp

theorem State.levelChanged_handOver (s : State) (z before after : Nat) : s.HandOver (s.levelChanged z before after) := by
  unfold State.levelChanged
  split
  · exact .refl s
  · exact .foldl _ (fun s k => s.markOutput_handOver _) _ _

theorem State.levelChanged_zones (s : State) (z before after : Nat) : (s.levelChanged z before after).zones = s.zones := by
  rw [State.levelChanged_eq]

theorem State.node_of_nodes {s t : State} (h : t.nodes = s.nodes) (id : NodeId) : t.node id = s.node id := by
  unfold State.node
  rw [h]

/-- A request whose owner leaves state `u`: what the answer adds to it is the response and the pins (R181). -/
theorem request_leaves {c : Instr} {code : Nat} {params payload : List Byte} {s u : State} {owner : State → State × OwnerAnswer}
    (hc : c.request = some (code, params)) (h : s.Ready) (howner : owner s = (u, ⟨.done, payload⟩)) :
    ∃ t, request c s owner = .next t ∧ t.AnsweredDone code payload
      ∧ t = { u with buffer := t.buffer, miso := t.miso, out := t.out }
      ∧ t.miso = List.replicate (5 + params.length) 0xFF#8 ∧ t.OutputsExact :=
  ⟨_, request_answered hc h howner, rfl, rfl, rfl, State.withOutputs_exact _⟩

/-! ## ZONE_SET asking for IN_USE (R29, R30) -/

/-- The configuration written into a zone record, before the band procedure (R30). -/
def Zone.withConfig (z : Zone) (cfg : ZoneParams) : Zone := { z with cfg := cfg, inUse := true }

theorem Zone.bandProcedure_eq (z : Zone) :
    z.bandProcedure = { z with band := bandAfter z.cfg z.S z.band, pending := z.bandProcedure.pending } := by
  simp only [Zone.bandProcedure, Zone.raiseIf_eq]

theorem Zone.configured_eq (z : Zone) (cfg : ZoneParams) : z.configured cfg = (z.withConfig cfg).bandProcedure.demandChange
    (decide ((z.withConfig cfg).bandProcedure.band = .purge ∧ z.band ≠ .purge)) := rfl

theorem Zone.configured_air (z : Zone) (cfg : ZoneParams) :
    ({ z with cfg := cfg, inUse := true, band := bandAfter cfg z.S z.band } : Zone).SameAir (z.configured cfg) := by
  have hband := (z.withConfig cfg).bandProcedure_eq
  have hair := (Zone.demandChange_inputs (z.withConfig cfg).bandProcedure
    (decide ((z.withConfig cfg).bandProcedure.band = .purge ∧ z.band ≠ .purge))).air
  rw [z.configured_eq]
  rw [hband] at hair ⊢
  exact { hair with }

theorem Zone.configured_exact (z : Zone) (cfg : ZoneParams) : (z.configured cfg).FiguresExact := Zone.demandChange_exact _ _

/-- The band's one event, under the new mask (R102; log entry 11). -/
theorem Zone.isIn_configured (z : Zone) (cfg : ZoneParams) {k : EventKind} (hk : ¬ k.ofDemand) :
    k.isIn (z.configured cfg).pending = (k.isIn z.pending
      || (decide (z.band.rank < (bandAfter cfg z.S z.band).rank) && k.isIn cfg.mask && decide (k = .bandUp))
      || (decide ((bandAfter cfg z.S z.band).rank < z.band.rank) && k.isIn cfg.mask && decide (k = .bandDown))) := by
  rw [z.configured_eq, (Zone.demandChange_keeps _ _).events k hk, Zone.isIn_bandProcedure, (z.withConfig cfg).bandProcedure_eq]
  rfl

/-- Settles O26. -/
theorem zoneSetConfiguresTheZone : Obligations.ZoneSetConfiguresTheZone := by
  intro s z u cfg h ho
  refine ⟨fun hout => ?_, fun hz hu hcfg => ?_⟩
  · refine request_refused (c := .zoneSetInUse z u cfg) rfl h ho (if_neg fun hin => hout ?_)
    simpa [zoneInRange_iff, and_assoc] using hin
  · have hin : (zoneInRange z && decide (u = 1) && zoneParamsInRange cfg) = true := by
      simp [zoneInRange, Config.zoneCount, hz, hu, hcfg]
    let x := s.zone z
    let v := s.changeZone z (x.configured cfg)
    let w := v.levelChanged z x.cfg.level cfg.level
    have hframe : s.ZoneFrame z w :=
      (s.changeZone_frame z _).trans ((v.levelChanged_handOver _ _ _).zoneFrame (v.levelChanged_zones _ _ _) z)
    have hzone : w.zone z = v.zone z := State.zone_of_zones (v.levelChanged_zones _ _ _) z
    have hair := (x.configured_air cfg).trans (s.changeZone_air z (x.configured cfg))
    have hkeeps := (s.changeZone_retallied z (x.configured cfg)).keeps
    have hevent : ∀ k : EventKind, ¬ k.ofDemand → k.isIn (v.zone z).pending = (k.isIn x.pending
        || (decide (x.band.rank < (bandAfter cfg x.S x.band).rank) && k.isIn cfg.mask && decide (k = .bandUp))
        || (decide ((bandAfter cfg x.S x.band).rank < x.band.rank) && k.isIn cfg.mask && decide (k = .bandDown))) :=
      fun k hk => by rw [hkeeps.events k hk, x.isIn_configured cfg hk]
    obtain ⟨t, ht, hdone, hsame, -, -⟩ := request_leaves (c := .zoneSetInUse z u cfg) (u := w) (payload := [])
      (owner := fun s => if zoneInRange z && decide (u = 1) && zoneParamsInRange cfg then
        ((s.changeZone z ((s.zone z).configured cfg)).levelChanged z (s.zone z).cfg.level cfg.level, doneEmpty)
        else refuse s .range) rfl h (if_pos hin)
    have hzone : t.zone z = v.zone z := by
      rw [hsame]
      exact hzone
    have hbays : t.bays = v.bays := by
      rw [hsame]
      exact (v.levelChanged_handOver _ _ _).bays
    refine ⟨t, ht, hdone, hframe.of_same hsame, ?_, ?_⟩
    · rw [hzone]
      refine ⟨hair.inUse, hair.cfg, hair.hostShed, hair.hostFloor, hair.slots, hair.I, hair.S, hair.blind, hair.band,
        (hevent .bandUp (by simp [EventKind.ofDemand])).trans ?_, (hevent .bandDown (by simp [EventKind.ofDemand])).trans ?_,
        fun hcount => ⟨?_, hkeeps.figures (x.configured_exact cfg)⟩⟩
      · simp [x, EventKind.isIn, EventKind.bit, Bool.and_comm]
      · simp [x, EventKind.isIn, EventKind.bit, Bool.and_comm]
      · exact (State.tallies_changeZone (x.configured_kept cfg).2 hcount).trans
          (State.tallyOf_congr hbays (hzone ▸ rfl) (hzone ▸ rfl)).symm
    · intro hlevel id e k b hservice hon
      have hlink := (s.changeZone_frame z (x.configured cfg)).nodes id
      have hnode : t.node id = w.node id := by
        rw [hsame]
        rfl
      have hanswer := hlink.answer
      rw [hservice] at hanswer
      have hoffers : (v.node id).offersZone z = true :=
        (Node.offersZone_iff _ _).mpr ⟨e, k, b, Service.answer_eq_some.mp hanswer⟩
      rw [hnode, State.node_levelChanged, if_pos ⟨Ne.symm hlevel, hoffers⟩, Node.marked_on (hlink.state ▸ hon)]

/-! ## ZONE_SET asking for FREE (R31) -/

theorem State.putZone_bare {s : State} {z : Nat} {x : Zone} (h : x.stages = []) : s.putZone z x = s.setZone z x := by
  unfold State.putZone
  rw [h]
  rfl

/-- What keeps a zone from being made FREE (R31). -/
theorem State.Legal.zoneNamed_iff {s : State} (hs : s.Legal) (z : Nat) : s.zoneNamed z = true ↔
    (∃ b, (s.bay b).cls ≠ .retired ∧ (s.bay b).zone = z) ∨ (s.zone z).slots ≠ [] ∨ (s.zone z).stages ≠ []
      ∨ ∃ i, i < 32 ∧ (s.sign i).zones.getLsbD z = true := by
  constructor
  · intro h
    simp only [State.zoneNamed, Bool.or_eq_true, List.any_eq_true, Bool.and_eq_true, decide_eq_true_eq, Bool.not_eq_true',
      List.isEmpty_eq_false_iff, signNumbers, List.mem_range] at h
    rcases h with ((⟨e, he, hcls, hzone⟩ | hslots) | hstages) | hsign
    · have hbay : s.bay e.1 = e.2 := Table.get_of_mem _ _ _ hs.baysWf e.1 e.2 he
      exact .inl ⟨e.1, hbay.symm ▸ hcls, hbay.symm ▸ hzone⟩
    · exact .inr (.inl hslots)
    · exact .inr (.inr (.inl hstages))
    · exact .inr (.inr (.inr hsign))
  · intro h
    refine Classical.byContradiction fun hnot => ?_
    obtain ⟨hbays, hslots, hstages, hsigns⟩ := State.zoneNamed_eq_false (by simpa using hnot)
    rcases h with ⟨b, hcls, hzone⟩ | hne | hne | ⟨i, hi, hset⟩
    · exact hbays b (hs.bay_place hcls) hcls hzone
    · exact hne hslots
    · exact hne hstages
    · exact Bool.noConfusion ((hsigns i hi).symm.trans hset)

section
variable {s : State} {z : Nat}

/-- The signs and the light sets name no unnamed zone, so a change of its record hands on nothing (R31, R151, R165). -/
theorem State.signsOver_unnamed (h : ∀ i, i < 32 → (s.sign i).zones.getLsbD z = false) : s.signsOver [z] = s := by
  have hnone : (signNumbers.filter fun i => [z].any fun y => (s.sign i).zones.getLsbD y) = [] :=
    List.filter_eq_nil_iff.mpr fun i hi => by simpa using h i (List.mem_range.mp hi)
  unfold State.signsOver
  rw [hnone]
  rfl

theorem State.litInZone_unnamed (h : ∀ b, (s.bay b).cls ≠ .retired → (s.bay b).zone ≠ z) (n : Node) :
    s.litInZone z n = false := by
  have hbays : ∀ r k, ((s.countedBays r k).any fun b => decide (b.zone = z)) = false := fun r k => by
    rw [List.any_eq_false]
    intro b hb
    obtain ⟨hlit, hcls⟩ := List.mem_filter.mp hb
    obtain ⟨i, -, rfl⟩ := List.mem_map.mp hlit
    simpa using h _ (of_decide_eq_true hcls)
  unfold State.litInZone
  split
  · exact hbays _ _
  all_goals rfl

theorem State.lightsOfZone_unnamed (h : ∀ b, (s.bay b).cls ≠ .retired → (s.bay b).zone ≠ z) : s.lightsOfZone z = s := by
  have hnone : s.nodesWhere (s.litInZone z) = [] :=
    List.filter_eq_nil_iff.mpr fun k _ => by simp [State.litInZone_unnamed h]
  unfold State.lightsOfZone
  rw [hnone]
  rfl

/-- An unnamed zone made FREE: its record alone is written (R31). -/
theorem State.changeZone_freed (hs : s.Legal) (hz : z < 32) (h : s.zoneNamed z = false) :
    s.changeZone z (s.zone z).freed = s.setZone z (s.zone z).freed := by
  obtain ⟨hbays, -, -, hsigns⟩ := State.zoneNamed_eq_false h
  have hany : ∀ b, (s.bay b).cls ≠ .retired → (s.bay b).zone ≠ z := fun b hcls => hbays b (hs.bay_place hcls) hcls
  have hput : s.putZone z (s.zone z).freed = s.setZone z (s.zone z).freed := State.putZone_bare rfl
  have hset : (s.setZone z (s.zone z).freed).Legal := hs.setZone hz ((s.zone z).freed_sound.legal (hs.zone z))
  have hretally : (s.setZone z (s.zone z).freed).retally z = s.setZone z (s.zone z).freed := by
    have hcount : (s.setZone z (s.zone z).freed).tallyOf z = (s.zone z).freed.tallies := hset.tallyOf_none hbays
    have hagain : (s.setZone z (s.zone z).freed).setZone z (s.zone z).freed = s.setZone z (s.zone z).freed :=
      congrArg (fun zs => ({ s with zones := zs } : State)) (Table.set_set _ _ _ _ _)
    rw [State.retally, hcount, s.zone_setZone_self, Zone.takeTallies_same, State.putZone_bare rfl, hagain]
  have hhanded : (if (s.zone z).shed = (s.zone z).freed.shed ∧ (s.zone z).inUse = (s.zone z).freed.inUse then
      s.setZone z (s.zone z).freed else (s.setZone z (s.zone z).freed).signsOver [z]) = s.setZone z (s.zone z).freed := by
    rw [State.signsOver_unnamed (s := s.setZone z (s.zone z).freed) hsigns, ite_self]
  unfold State.changeZone
  dsimp only
  rw [hput, hretally, hhanded, State.lightsOfZone_unnamed (s := s.setZone z (s.zone z).freed) hany, ite_self]

end

/-- Settles O28. -/
theorem zoneSetFreesTheZone : Obligations.ZoneSetFreesTheZone := by
  refine ⟨fun s z cfg h ho hz => ?_, fun s z cfg h ho hs hz => ⟨fun hnamed => ?_, fun hnamed => ?_⟩⟩
  · exact request_refused (c := .zoneSetFree z cfg) rfl h ho (if_pos (zoneInRange_false hz))
  all_goals have hrange : ¬ zoneInRange z = false := by simp [zoneInRange, Config.zoneCount, hz]
  · exact request_refused (c := .zoneSetFree z cfg) rfl h ho ((if_neg hrange).trans (if_pos ((hs.zoneNamed_iff z).mpr hnamed)))
  · have hfree : ¬ s.zoneNamed z = true := fun hn => hnamed ((hs.zoneNamed_iff z).mp hn)
    let v := s.setZone z (s.zone z).freed
    let w := v.levelChanged z (s.zone z).cfg.level 1
    have hwv : w = { v with nodes := w.nodes } := v.levelChanged_eq _ _ _
    obtain ⟨t, ht, hdone, hsame, hmiso, hexact⟩ := request_leaves (c := .zoneSetFree z cfg) (u := w) (payload := [])
      (owner := fun s => if zoneInRange z = false then refuse s .range
        else if s.zoneNamed z then refuse s .state
        else ((s.changeZone z (s.zone z).freed).levelChanged z (s.zone z).cfg.level Zone.powerOn.cfg.level, doneEmpty)) rfl h
      ((if_neg hrange).trans ((if_neg hfree).trans (by rw [State.changeZone_freed hs hz (by simpa using hfree)]; rfl)))
    have hzones : t.zones = v.zones := by rw [hsame, hwv]
    have hnodes : t.nodes = w.nodes := by rw [hsame]
    refine ⟨t, ht, ?_, hexact, ?_, fun y hy => ?_, fun id _ => ?_⟩
    · have hbuffer : t.buffer = _ := hdone
      rw [hwv, hbuffer, hmiso] at hsame
      rw [hnodes, hzones]
      exact hsame
    · rw [State.zone_of_zones hzones, s.zone_setZone_self]
      rfl
    · rw [State.zone_of_zones hzones, State.zone_setZone, if_neg hy]
    · have hnode : t.node id = if (s.zone z).cfg.level ≠ 1 ∧ (s.node id).offersZone z = true then (s.node id).marked
          else s.node id := by
        rw [State.node_of_nodes hnodes, State.node_levelChanged]
        rfl
      rw [hnode]
      refine ⟨fun ⟨hlevel, hon, hoffer⟩ => ?_, fun hnot => ?_⟩
      · rw [if_pos ⟨hlevel, (Node.offersZone_iff _ _).mpr hoffer⟩, Node.marked_on hon]
      · split
        · rename_i hoffer
          obtain ⟨hlevel, hoffers⟩ := hoffer
          refine Node.marked_off ?_
          refine Classical.byContradiction fun hon => ?_
          exact hnot ⟨hlevel, hon, (Node.offersZone_iff _ _).mp hoffers⟩
        · rfl

/-! ## ZONE_SHED and ZONE_UNSHED (R33) -/

theorem Zone.shed_iff {z : Zone} (huse : z.inUse = true) (f : Bool) :
    ({ z with hostShed := f } : Zone).shed = true ↔ f = true ∨ z.band = .high ∨ z.band = .purge := by
  have hband : z.band.sheds = true ↔ z.band = .high ∨ z.band = .purge := by cases z.band <;> simp [Band.sheds]
  simp [Zone.shed, huse, hband]

/-- Settles O29. -/
theorem shedRequestsSetTheFlag : Obligations.ShedRequestsSetTheFlag := by
  intro s z f h ho hz c code
  have hrange : ¬ zoneInRange z = false := by simp [zoneInRange, Config.zoneCount, hz]
  have hexec : exec c s = request c s fun s => s.shedZone z f := by cases f <;> rfl
  have hparams : c.request = some (code, [u8 z]) := by cases f <;> rfl
  refine ⟨fun hfree => ?_, fun huse => ?_⟩
  · rw [hexec]
    exact request_refused (owner := fun s => s.shedZone z f) hparams h ho ((if_neg hrange).trans (if_pos hfree))
  · let x : Zone := { s.zone z with hostShed := f }
    obtain ⟨t, ht, hdone, hsame, -, -⟩ := request_leaves (u := s.changeZone z x) (payload := [])
      (owner := fun s => s.shedZone z f) hparams h ((if_neg hrange).trans (if_neg (by simp [huse])))
    have hzone : t.zone z = (s.changeZone z x).zone z := by
      rw [hsame]
      rfl
    have hair := s.changeZone_air z x
    have htally : t.tallyOf z = (s.changeZone z x).tallyOf z :=
      State.tallyOf_congr (by rw [hsame]) (hzone ▸ rfl) (hzone ▸ rfl)
    have hrecord := s.zone_changeZone z x
    have hmoved : (t.zone z).shed ≠ (s.zone z).shed → (t.zone z).tallies = t.tallyOf z := fun hshed => by
      rw [hzone, hair.shed] at hshed
      rw [if_neg fun hsame => hshed hsame.1.symm] at hrecord
      rw [hzone, htally, hrecord, Zone.takeTallies_tallies, s.tallyOf_changeZone]
    refine ⟨t, hexec.trans ht, hdone, (s.changeZone_frame z x).of_same hsame, hzone ▸ hair, ?_, fun hshed => ?_, hmoved,
      fun hshed hwas => ?_⟩
    · rw [hzone, hair.shed]
      exact Zone.shed_iff huse f
    · rw [hzone, hair.shed] at hshed
      rw [hzone, hrecord, if_pos ⟨hshed.symm, rfl⟩]
    · rw [hmoved fun hsame => Bool.noConfusion (hshed.symm.trans (hsame.trans hwas))]
      exact State.offeredSum_of_closed fun b => by simp [Bay.offeredIn, hshed]

end Sys2Proof.Machine
end

section
/-! CERTIFICATE. ZONE_STAGE: the stage list of a zone changed (R60, R61). -/

namespace Sys2Proof.Machine

/-! ## The changed record -/

/-- A change that leaves the fume part and the settings leaves the record as it was changed to (R32). -/
theorem State.zone_changeZone_air {s : State} {z : Nat} {x : Zone} (h : (s.zone z).SameAir x) : (s.changeZone z x).zone z = x := by
  rw [s.zone_changeZone, if_pos ⟨h.shed.symm, h.inUse.symm⟩]

/-- A stage list changed: the record takes the list, and the figures are exact (R60, R61). -/
theorem State.changeZone_withStages (s : State) (z : Nat) (stages : List Stage) :
    let y := (s.changeZone z ((s.zone z).withStages stages)).zone z
    (s.zone z).SameAir y ∧ y.tallies = (s.zone z).tallies ∧ y.stages.map (·.node) = stages.map (·.node) ∧ y.FiguresExact := by
  have hinputs := (s.zone z).withStages_inputs stages
  rw [State.zone_changeZone_air hinputs.air]
  exact ⟨hinputs.air, hinputs.tallies, (s.zone z).withStages_names stages, (s.zone z).withStages_exact stages⟩

/-! ## The refusals -/

theorem StageStatus.atRest_iff (x : StageStatus) : x.atRest = true ↔ x = .idle ∨ x = .faulted := by
  cases x <;> simp [StageStatus.atRest]

theorem State.fanTaken_iff (s : State) (id : NodeId) :
    s.fanTaken id = true ↔ ∃ y, y < 32 ∧ ∃ g ∈ (s.zone y).stages, g.node = id := by
  simp [State.fanTaken, zoneNumbers, Config.zoneCount, Zone.hasStageOf]

/-- What ZONE_STAGE asking to bind answers. -/
def State.bindStage (s : State) (form z l a : Nat) : State × OwnerAnswer :=
  if (decide (form = 0) && zoneInRange z && nodeInRange l a) = false then refuse s .range
  else if (s.zone z).inUse = false then refuse s .state
  else if (s.zone z).seq ≠ .idle then refuse s .state
  else if (s.node ⟨l, a⟩).state = .off ∨ (s.node ⟨l, a⟩).service ≠ .fan then refuse s .state
  else if 4 ≤ (s.zone z).stages.length then refuse s .state
  else if s.fanTaken ⟨l, a⟩ then refuse s .conflict
  else
    done ((s.changeZone z ((s.zone z).withStages ((s.zone z).stages ++ [boundStage ⟨l, a⟩]))).markOutput ⟨l, a⟩)
      [u8 ((s.zone z).stages.length + 1)]

/-- What ZONE_STAGE asking to unbind answers. -/
def State.unbindStage (s : State) (form z n : Nat) : State × OwnerAnswer :=
  if (decide (form = 1) && zoneInRange z && within 1 4 n) = false then refuse s .range
  else if (s.zone z).inUse = false ∨ (s.zone z).stages.length < n ∨ (s.zone z).seq ≠ .idle
      ∨ ((s.zone z).statusAt (n - 1)).atRest = false then refuse s .state
  else (s.changeZone z ((s.zone z).withStages (removeAt (s.zone z).stages (n - 1))), doneEmpty)

section
variable {s : State}

theorem State.bindStage_range {f z l a : Nat} (h : ¬ (f = 0 ∧ z < 32 ∧ l < 4 ∧ 1 ≤ a ∧ a ≤ 63)) :
    s.bindStage f z l a = refuse s .range := by
  refine if_pos ?_
  refine Classical.byContradiction fun hin => ?_
  simp [zoneInRange_iff, nodeInRange_iff] at hin
  exact h hin

theorem State.unbindStage_range {f z n : Nat} (h : ¬ (f = 1 ∧ z < 32 ∧ 1 ≤ n ∧ n ≤ 4)) : s.unbindStage f z n = refuse s .range := by
  refine if_pos ?_
  refine Classical.byContradiction fun hin => ?_
  simp [zoneInRange_iff, within_iff] at hin
  exact h hin

/-- What ZONE_STAGE asking to bind asks of the zone and the node (R60). -/
abbrev State.canBindStage (s : State) (z l a : Nat) : Prop :=
  (s.zone z).inUse = true ∧ (s.zone z).seq = .idle ∧ (s.node ⟨l, a⟩).service = .fan ∧ (s.zone z).stages.length < 4

theorem State.bindStage_state (hs : s.Legal) {z l a : Nat} (hz : z < 32) (hl : l < 4) (ha : 1 ≤ a ∧ a ≤ 63) :
    s.bindStage 0 z l a =
      if ¬ s.canBindStage z l a then refuse s .state
      else if s.fanTaken ⟨l, a⟩ then refuse s .conflict
      else done ((s.changeZone z ((s.zone z).withStages ((s.zone z).stages ++ [boundStage ⟨l, a⟩]))).markOutput ⟨l, a⟩)
        [u8 ((s.zone z).stages.length + 1)] := by
  have hin : ¬ (decide (0 = 0) && zoneInRange z && nodeInRange l a) = false := by
    simp [(zoneInRange_iff z).mpr hz, (nodeInRange_iff l a).mpr ⟨hl, ha⟩]
  unfold State.bindStage
  rw [if_neg hin]
  by_cases hinUse : (s.zone z).inUse = true
  case neg => rw [if_pos (by simpa using hinUse), if_pos fun h : s.canBindStage z l a => hinUse h.1]
  rw [if_neg (by simp [hinUse])]
  by_cases hseq : (s.zone z).seq = .idle
  case neg => rw [if_pos hseq, if_pos fun h : s.canBindStage z l a => hseq h.2.1]
  rw [if_neg (Classical.not_not.mpr hseq)]
  by_cases hfan : (s.node ⟨l, a⟩).service = .fan
  case neg => rw [if_pos (.inr hfan), if_pos fun h : s.canBindStage z l a => hfan h.2.2.1]
  have hon : (s.node ⟨l, a⟩).state ≠ .off := fun hoff =>
    Service.noConfusion (hfan.symm.trans ((hs.node ⟨l, a⟩).off_iff_service.mp hoff))
  rw [if_neg (by simp [hon, hfan])]
  by_cases hroom : (s.zone z).stages.length < 4
  case neg => rw [if_pos (Nat.le_of_not_lt hroom), if_pos fun h : s.canBindStage z l a => hroom h.2.2.2]
  rw [if_neg (Nat.not_le.mpr hroom), if_neg (Classical.not_not.mpr ⟨hinUse, hseq, hfan, hroom⟩ : ¬ ¬ s.canBindStage z l a)]

theorem State.unbindStage_state {z n : Nat} (hz : z < 32) (hn : 1 ≤ n ∧ n ≤ 4) :
    s.unbindStage 1 z n =
      if (s.zone z).inUse = false ∨ (s.zone z).stages.length < n ∨ (s.zone z).seq ≠ .idle
        ∨ ((s.zone z).statusAt (n - 1)).atRest = false then refuse s .state
      else (s.changeZone z ((s.zone z).withStages (removeAt (s.zone z).stages (n - 1))), doneEmpty) := by
  refine if_neg ?_
  simp [(zoneInRange_iff z).mpr hz, (within_iff 1 4 n).mpr hn]

end

/-- Settles O38. -/
theorem zoneStageChangesTheStageList : Obligations.ZoneStageChangesTheStageList := by
  refine ⟨fun s f z l a h ho hs => ⟨fun hbad => ?_, fun hgood hfits => ?_, fun hgood hfits htaken => ?_⟩,
    fun s f z n h ho hbad => ?_, fun s z l a h hs hz hl ha ha' huse hseq hfan hroom hfree => ?_,
    fun s z n h ho hz hn hn' => ⟨fun hbad => ?_, fun g huse hseq hg hfree => ?_⟩⟩
  · exact request_refused (c := .zoneStageBind f z l a) (owner := fun s => s.bindStage f z l a) rfl h ho (State.bindStage_range hbad)
  · obtain ⟨rfl, hz, hl, ha⟩ := hgood
    exact request_refused (c := .zoneStageBind 0 z l a) (owner := fun s => s.bindStage 0 z l a) rfl h ho
      ((State.bindStage_state hs hz hl ha).trans (if_pos hfits))
  · obtain ⟨rfl, hz, hl, ha⟩ := hgood
    exact request_refused (c := .zoneStageBind 0 z l a) (owner := fun s => s.bindStage 0 z l a) rfl h ho
      ((State.bindStage_state hs hz hl ha).trans
        ((if_neg (Classical.not_not.mpr hfits)).trans (if_pos ((s.fanTaken_iff _).mpr htaken))))
  · exact request_refused (c := .zoneStageUnbind f z n) (owner := fun s => s.unbindStage f z n) rfl h ho (State.unbindStage_range hbad)
  · let stages := (s.zone z).stages ++ [boundStage ⟨l, a⟩]
    let u := s.changeZone z ((s.zone z).withStages stages)
    have hnew : ¬ s.fanTaken ⟨l, a⟩ = true := fun htaken => by
      obtain ⟨y, hy, g, hg, hnode⟩ := (s.fanTaken_iff _).mp htaken
      exact hfree y hy g hg hnode
    have hcan : s.canBindStage z l a := ⟨huse, hseq, hfan, hroom⟩
    obtain ⟨t, ht, hdone, hsame, -, -⟩ := request_leaves (c := .zoneStageBind 0 z l a) (u := u.markOutput ⟨l, a⟩)
      (owner := fun s => s.bindStage 0 z l a) rfl h ((State.bindStage_state hs hz hl ⟨ha, ha'⟩).trans
        ((if_neg (Classical.not_not.mpr hcan)).trans (if_neg hnew)))
    have hframe := s.changeZone_frame z ((s.zone z).withStages stages)
    have hzone : t.zone z = u.zone z := by
      rw [hsame]
      exact State.zone_of_zones (u.markOutput_zones _) z
    obtain ⟨hair, htallies, hnodes, hexact⟩ := s.changeZone_withStages z stages
    refine ⟨t, ht, hdone, (hframe.trans ((u.markOutput_handOver _).zoneFrame (u.markOutput_zones _) z)).of_same hsame,
      hzone ▸ hair, hzone ▸ htallies, ?_, ?_, hzone ▸ hexact⟩
    · rw [hzone, hnodes, List.map_append]
      rfl
    · have hon : (u.node ⟨l, a⟩).state ≠ .off := by
        rw [(hframe.nodes _).state]
        exact fun hoff => Service.noConfusion (hfan.symm.trans ((hs.node ⟨l, a⟩).off_iff_service.mp hoff))
      have hnode : t.node ⟨l, a⟩ = (u.markOutput ⟨l, a⟩).node ⟨l, a⟩ := State.node_of_nodes (by rw [hsame]) _
      rw [hnode, State.node_markOutput, if_pos rfl, Node.marked_on hon]
  · refine request_refused (c := .zoneStageUnbind 1 z n) (owner := fun s => s.unbindStage 1 z n) rfl h ho
      ((State.unbindStage_state hz ⟨hn, hn'⟩).trans (if_pos ?_))
    refine hbad.imp_right (Or.imp_right (Or.imp_right fun ⟨g, hg, hbusy⟩ => ?_))
    rw [Zone.statusAt_eq hg, ← Bool.not_eq_true, StageStatus.atRest_iff]
    exact hbusy
  · have hlen : n - 1 < (s.zone z).stages.length := (List.getElem?_eq_some_iff.mp hg).1
    have hrest : ((s.zone z).statusAt (n - 1)).atRest = true := by
      rw [Zone.statusAt_eq hg]
      exact (StageStatus.atRest_iff _).mpr hfree
    obtain ⟨t, ht, hdone, hsame, -, -⟩ := request_leaves (c := .zoneStageUnbind 1 z n) (payload := [])
      (owner := fun s => s.unbindStage 1 z n) rfl h ((State.unbindStage_state hz ⟨hn, hn'⟩).trans
        (if_neg (by simp [huse, hseq, hrest]; omega)))
    have hzone := State.zone_of_zones (s := s.changeZone z _) (t := t) (by rw [hsame]) z
    obtain ⟨hair, htallies, hnodes, hexact⟩ := s.changeZone_withStages z (removeAt (s.zone z).stages (n - 1))
    refine ⟨t, ht, hdone, (s.changeZone_frame z _).of_same hsame, hzone ▸ hair, hzone ▸ htallies, ?_, hzone ▸ hexact⟩
    rw [hzone, hnodes, removeAt_eq, Nat.sub_add_cancel hn]

end Sys2Proof.Machine
end

section
/-! CERTIFICATE. The end of a step down and of a dwell, and what the sequencer then does (R120 to R124). -/

namespace Sys2Proof.Machine

/-! ## A step counted -/

theorem Zone.countStep_eq {z : Zone} {q : Sequence} (hq : z.sequence = some q) (hlt : q.steps < 4) :
    z.countStep = { z with sequence := some { q with steps := q.steps + 1 } } := by
  unfold Zone.countStep
  rw [hq]
  simp only [nextStepCount, if_pos hlt]

/-- A step down ended by its rundown timer: the step counted, and the dwell or IDLE (R123). -/
theorem Zone.rundownEnd_eq {z : Zone} {q : Sequence} (hq : z.sequence = some q) (hlt : q.steps < 4) (i : Nat) :
    z.rundownEnd i = Zone.enterDwell { z.changeStage i Stage.rest with sequence := some { q with steps := q.steps + 1 } }
      z.cfg.dwellDown := by
  unfold Zone.rundownEnd Zone.stepDownEnded
  rw [Zone.countStep_eq (z := z.changeStage i Stage.rest) hq hlt]
  rfl

theorem Zone.rundownEnd_dwell {z : Zone} {q : Sequence} (hq : z.sequence = some q) (hlt : q.steps < 4) (hband : z.band ≠ .purge)
    (hticks : z.cfg.dwellDown ≠ 0) (i : Nat) : z.rundownEnd i = { z.changeStage i Stage.rest with
      sequence := some { q with steps := q.steps + 1 }, seq := .dwell, dwell := z.cfg.dwellDown } :=
  (Zone.rundownEnd_eq hq hlt i).trans (if_neg (not_or.mpr ⟨hband, hticks⟩))

theorem Zone.rundownEnd_idle {z : Zone} {q : Sequence} (hq : z.sequence = some q) (hlt : q.steps < 4)
    (hnone : z.band = .purge ∨ z.cfg.dwellDown = 0) (i : Nat) : z.rundownEnd i = Zone.reEvaluate { z.changeStage i Stage.rest with
      sequence := some { q with steps := q.steps + 1 }, seq := .idle, dwell := 0 } :=
  (Zone.rundownEnd_eq hq hlt i).trans (if_pos hnone)

/-! ## What a change of the offer leaves (R19, R32) -/

/-- The tallies that the engine load reads are counted whatever is offered (R17, R110). -/
theorem State.load_setZone (s : State) (z : Nat) (x : Zone) : (s.tallyOf z).loadMoved ((s.setZone z x).tallyOf z) = false := by
  have hload : ∀ (l : List (Nat × Bay)) (t u : Tallies) (v w : Zone),
      t.arriving = u.arriving ∧ t.leaving = u.leaving ∧ t.holds = u.holds →
      (l.foldl (fun t e => if e.2.countsIn z then t.add e.2 (e.2.offeredIn v) else t) t).loadMoved
        (l.foldl (fun t e => if e.2.countsIn z then t.add e.2 (e.2.offeredIn w) else t) u) = false := fun l => by
    induction l with
    | nil =>
      intro t u _ _ ⟨harriving, hleaving, hholds⟩
      simp [Tallies.loadMoved, harriving, hleaving, hholds]
    | cons e l ih =>
      refine fun t u v w heq => ih _ _ v w ?_
      dsimp only
      split
      · obtain ⟨harriving, hleaving, hholds⟩ := heq
        simp only [Tallies.add, harriving, hleaving, hholds, and_self]
      · exact heq
  exact hload s.bays _ _ _ _ ⟨rfl, rfl, rfl⟩

/-- A change that leaves the tallies, where they are counted, moves no more of the record than the offered counts and the
pending set (R20, R32). -/
theorem State.zone_changeZone_offer {s : State} {z : Nat} {x : Zone} (htallies : x.tallies = (s.zone z).tallies)
    (h : (s.zone z).tallies = s.tallyOf z) : (s.changeZone z x).zone z =
      { x with tallies := ((s.changeZone z x).zone z).tallies, pending := ((s.changeZone z x).zone z).pending } := by
  rw [s.zone_changeZone]
  split
  · rfl
  · unfold Zone.takeTallies
    rw [htallies, h, s.load_setZone]
    simp only [Zone.raiseIf_eq, Bool.false_eq_true, if_false]

/-! ## A band that enters PURGE (R114, R124) -/

theorem Zone.c_le_N (z : Zone) : z.c ≤ z.N := List.countP_le_length

/-- A demand of at most 1000 asks for no more stages than there are (R113). -/
theorem computedTarget_le {d n h c : Nat} (hd : d ≤ 1000) (hc : c ≤ n) : computedTarget d n h c ≤ n := by
  have hr : ceilDiv (d * n) 1000 ≤ n := by
    have hmul : d * n ≤ 1000 * n := Nat.mul_le_mul_right n hd
    unfold ceilDiv
    omega
  unfold computedTarget
  dsimp only
  split
  · exact Nat.zero_le _
  · split
    · exact hr
    · split <;> omega

/-- Under PURGE the target is every stage of the zone (R114). -/
theorem Zone.figures_target_purge {z : Zone} (h : z.band = .purge) : z.figures.target = z.N := by
  have hcomputed := computedTarget_le (h := z.cfg.demandH) (Nat.min_le_left 1000 (z.fumeTerm + z.loadTerm)) z.c_le_N
  show max (computedTarget (min 1000 (z.fumeTerm + z.loadTerm)) z.N z.cfg.demandH z.c)
    (max (min (bandFloorOf z.band z.N) z.N) (max (min _ z.N) (min _ z.N))) = z.N
  rw [h]
  simp only [bandFloorOf]
  omega

/-- A step in the direction of the sequence in progress carries it on toward the present target (R120). -/
theorem Zone.toward_same {z : Zone} {q : Sequence} {d : Direction} (hq : z.sequence = some q) (hd : q.dir = d) :
    z.sequenceToward d = { q with goal := z.target } ∧ z.lastToward d = z.last := by
  unfold Zone.sequenceToward Zone.lastToward
  rw [hq]
  exact ⟨if_pos hd, if_pos hd⟩

/-- A re-evaluation in a sequence whose target is not below c moves neither the target, the dwell timer nor the band (R120). -/
theorem Zone.ReEvaluated.upward {x y : Zone} (h : x.ReEvaluated y) {q : Sequence} (hq : x.sequence = some q) (hle : x.c ≤ x.target) :
    y.target = x.target ∧ y.dwell = x.dwell ∧ y.band = x.band := by
  have hready : x.sequence ≠ none ∨ x.shortHold = false := .inl fun hnone => nomatch hq.symm.trans hnone
  rcases Nat.lt_or_eq_of_le hle with hlt | heq
  · cases hplace : firstPlace (fun g : Stage => decide (g.status = .idle)) x.stages with
    | none =>
      have hnone := firstPlace_eq_none.mp hplace
      rw [h.short hready hlt fun g hg => of_decide_eq_false (hnone g hg)]
      exact ⟨rfl, rfl, rfl⟩
    | some j =>
      obtain ⟨⟨g, hg, hidle⟩, hfirst⟩ := firstPlace_eq_some.mp hplace
      obtain ⟨hy, -⟩ := h.up j g hready hlt hg (of_decide_eq_true hidle) fun k hk v hv => of_decide_eq_false (hfirst k hk v hv)
      rw [hy]
      exact ⟨rfl, rfl, rfl⟩
  · rw [h.done q hq heq.symm]
    exact ⟨rfl, rfl, rfl⟩

/-- The record of a zone whose dwell a ZONE_SET ends: configured, in PURGE, every stage its target, the sequencer IDLE (R124). -/
def Zone.purging (z : Zone) (cfg : ZoneParams) (pending : EventSet) : Zone :=
  { ({ z with cfg := cfg, inUse := true, band := .purge, pending := pending } : Zone).figures with seq := .idle, dwell := 0 }

theorem Zone.configured_purging {z : Zone} {cfg : ZoneParams} (hdwell : z.seq = .dwell) (hout : z.band ≠ .purge)
    (hin : bandAfter cfg z.S z.band = .purge) :
    z.configured cfg = (z.purging cfg (z.withConfig cfg).bandProcedure.pending).reEvaluate := by
  have hb : (z.withConfig cfg).bandProcedure
      = { z with cfg := cfg, inUse := true, band := .purge, pending := (z.withConfig cfg).bandProcedure.pending } := by
    rw [← hin]
    exact (z.withConfig cfg).bandProcedure_eq
  rw [z.configured_eq]
  generalize (z.withConfig cfg).bandProcedure.pending = p at hb
  rw [hb]
  unfold Zone.demandChange
  exact if_pos ⟨hdwell, decide_eq_true ⟨rfl, hout⟩⟩

theorem Zone.purging_target (z : Zone) (cfg : ZoneParams) (p : EventSet) : (z.purging cfg p).target = z.N :=
  Zone.figures_target_purge (z := { z with cfg := cfg, inUse := true, band := .purge, pending := p }) rfl

/-- Settles O55. -/
theorem rundownAndDwellEndTheStep : Obligations.RundownAndDwellEndTheStep := by
  intro s z q hheld hs hz hq x
  have hrundown : ∀ (i : Nat) (g : Stage), x.stages[i]? = some g → g.status = .stopping → g.rundown = 0 →
      ∃ t, exec (.rundownTimerExpiry z (i + 1)) s = .next t ∧ t.buffer = s.buffer ∧ s.ZoneFrame z t
        ∧ t.zone z = x.rundownEnd i := fun i g hg hstop hdue => by
    obtain ⟨t, ht, hbuffer, hframe, hzone, -⟩ := putZone_event hheld (z := z) (x := x.rundownEnd i)
      (f := fun s => if 1 ≤ i + 1 ∧ (s.zone z).rundownDue (i + 1 - 1) = true then
        s.putZone z ((s.zone z).rundownEnd (i + 1 - 1)) else s)
      (if_pos ⟨Nat.le_add_left 1 i, Zone.rundownDue_iff.mpr ⟨g, hg, hstop, hdue⟩⟩)
    exact ⟨t, ht, hbuffer, hframe, hzone⟩
  have hdwell : x.seq = .dwell → x.dwell = 0 →
      ∃ t, exec (.dwellTimerExpiry z) s = .next t ∧ t.buffer = s.buffer ∧ s.ZoneFrame z t
        ∧ ({ x with seq := .idle, dwell := 0 } : Zone).ReEvaluated (t.zone z) := fun hseq hdue => by
    obtain ⟨t, ht, hbuffer, hframe, hzone, -⟩ := putZone_event hheld (z := z) (x := x.enterIdle)
      (f := fun s => if (s.zone z).seq = .dwell ∧ (s.zone z).dwell = 0 then s.putZone z (s.zone z).enterIdle else s)
      (if_pos ⟨hseq, hdue⟩)
    refine ⟨t, ht, hbuffer, hframe, ?_⟩
    rw [hzone]
    exact Zone.reEvaluate_reEvaluated (z := { x with seq := .idle, dwell := 0 }) rfl
  refine ⟨fun i g hg hstop hdue hticks hband hsteps => ?_, fun hseq hdue htarget => ?_,
    fun i g hg hstop hdue hnone hsteps => ?_, hdwell, fun cfg h htallies hcfg hseq hout hin => ?_,
    fun j y hseq hdue hlt hdir hj hidle hfirst => ?_⟩
  · obtain ⟨t, ht, hbuffer, hframe, hzone⟩ := hrundown i g hg hstop hdue
    refine ⟨t, ht, hbuffer, hframe, ?_⟩
    rw [hzone, Zone.rundownEnd_dwell hq hsteps hband hticks]
    exact ⟨rfl, Zone.stages_changeStage_of hg Stage.rest⟩
  · obtain ⟨t, ht, hbuffer, hframe, hre⟩ := hdwell hseq hdue
    refine ⟨t, ht, hbuffer, hframe, (hre.done q hq htarget).trans ?_⟩
    rw [← hdue]
  · obtain ⟨t, ht, hbuffer, hframe, hzone⟩ := hrundown i g hg hstop hdue
    let w : Zone := { x.changeStage i Stage.rest with sequence := some { q with steps := q.steps + 1 }, seq := .idle, dwell := 0 }
    refine ⟨t, ht, hbuffer, hframe, w, ?_, rfl, Zone.stages_changeStage_of hg Stage.rest⟩
    rw [hzone, Zone.rundownEnd_idle hq hsteps hnone.symm]
    exact Zone.reEvaluate_reEvaluated (z := w) rfl
  · let v := x.purging cfg (x.withConfig cfg).bandProcedure.pending
    have hconfigured : x.configured cfg = v.reEvaluate := Zone.configured_purging hseq hout hin
    have htarget : v.target = x.N := x.purging_target cfg _
    have hre : v.ReEvaluated v.reEvaluate := Zone.reEvaluate_reEvaluated rfl
    have hready : v.sequence ≠ none ∨ v.shortHold = false := .inl fun hnone => nomatch hq.symm.trans hnone
    obtain ⟨t, ht, hdone, hsame, -, -⟩ := request_leaves (c := .zoneSetInUse z 1 cfg) (payload := [])
      (u := (s.changeZone z (x.configured cfg)).levelChanged z x.cfg.level cfg.level)
      (owner := fun s => if zoneInRange z && decide (1 = 1) && zoneParamsInRange cfg then
        ((s.changeZone z ((s.zone z).configured cfg)).levelChanged z (s.zone z).cfg.level cfg.level, doneEmpty)
        else refuse s .range) rfl h (if_pos (by simp [zoneInRange, Config.zoneCount, hz, hcfg]))
    have hframe : s.ZoneFrame z t := ((s.changeZone_frame z _).trans
      ((State.levelChanged_handOver _ _ _ _).zoneFrame (State.levelChanged_zones _ _ _ _) z)).of_same hsame
    have hzone : t.zone z = { v.reEvaluate with tallies := (t.zone z).tallies, pending := (t.zone z).pending } := by
      have heq : t.zone z = (s.changeZone z (x.configured cfg)).zone z := by
        rw [hsame]
        exact State.zone_of_zones (State.levelChanged_zones _ _ _ _) z
      rw [heq, ← hconfigured]
      exact State.zone_changeZone_offer (x.configured_kept cfg).2 (htallies z hz)
    obtain ⟨htargets, hdwells, hbands⟩ := hre.upward hq (htarget.symm ▸ x.c_le_N)
    refine ⟨t, ht, hdone, hframe, ?_⟩
    rw [hzone]
    refine ⟨hbands, htargets.trans htarget, hdwells, fun hall => ?_, fun hlt hnone => ?_, fun j y hlt hj hidle hfirst => ?_⟩
    · rw [hre.done q hq (htarget.trans hall.symm)]
      exact ⟨rfl, rfl, rfl, rfl⟩
    · rw [hre.short hready (htarget.symm ▸ hlt) hnone]
      exact ⟨rfl, rfl, rfl, rfl, rfl⟩
    · obtain ⟨heq, hstages⟩ := hre.up j y hready (htarget.symm ▸ hlt) hj hidle hfirst
      have hsequence : v.sequenceToward .up = ({ x with target := x.N } : Zone).sequenceToward .up := by
        rw [← htarget]
        rfl
      refine ⟨by rw [heq], by rw [heq]; rfl, ?_, hstages⟩
      rw [heq, ← hsequence]
  · obtain ⟨t, ht, hbuffer, hframe, hre⟩ := hdwell hseq hdue
    have hsome : x.sequence ≠ none := fun hnone => nomatch hq.symm.trans hnone
    obtain ⟨heq, hstages⟩ := hre.up j y (.inl hsome) hlt hj hidle hfirst
    obtain ⟨hsequence, hlast⟩ := Zone.toward_same (z := { x with seq := .idle, dwell := 0 }) hq hdir
    rw [hsequence, hlast, ← hdue] at heq
    exact ⟨t, ht, hbuffer, hframe, heq, hstages⟩

end Sys2Proof.Machine
end

section
/-! CERTIFICATE. The frames of the host link, read and written (R179, R180, R186, R190). -/

namespace Sys2Proof

open Laws.RequestFits (byteAt_cons_zero byteAt_cons_succ u8_toNat)

/-! ## Bytes -/

theorem u8_of_isByte {n : Nat} (h : isByte n = true) : (u8 n).toNat = n := u8_toNat n (of_decide_eq_true h)

theorem u16_of_isWord {n : Nat} (h : isWord n = true) : 256 * (u8 (n / 256)).toNat + (u8 n).toNat = n := by
  have hlt : n < 65536 := of_decide_eq_true h
  rw [u8_toNat _ (by omega)]
  simp only [u8, BitVec.toNat_ofNat]
  omega

theorem u8_toNat_self (b : Byte) : u8 b.toNat = b := BitVec.ofNat_toNat ..

theorem u16_of_bytes (b c : Byte) : u16 (256 * b.toNat + c.toNat) = [b, c] := by
  have hb := b.isLt
  have hc := c.isLt
  have hhigh : (256 * b.toNat + c.toNat) / 256 = b.toNat := by omega
  have hlow : u8 (256 * b.toNat + c.toNat) = c := by
    apply BitVec.eq_of_toNat_eq
    simp only [u8, BitVec.toNat_ofNat]
    omega
  rw [u16, hhigh, u8_toNat_self, hlow]

theorem isByte_toNat (b : Byte) : isByte b.toNat = true := decide_eq_true b.isLt

theorem isWord_of_bytes (b c : Byte) : isWord (256 * b.toNat + c.toNat) = true := by
  have hb := b.isLt
  have hc := c.isLt
  exact decide_eq_true (by omega)

theorem isByte_byteAt (p : List Byte) (i : Nat) : isByte (byteAt p i) = true := isByte_toNat _

theorem isWord_wordAt (p : List Byte) (i : Nat) : isWord (wordAt p i) = true := isWord_of_bytes _ _

/-! ## The parameters of each request, read back (R190) -/

theorem maskBytes_read (m : EventSet) : BitVec.ofNat 16 (256 * (u8 (m.toNat / 256)).toNat + (u8 m.toNat).toNat) = m := by
  rw [u16_of_isWord (decide_eq_true m.isLt)]
  exact BitVec.ofNat_toNat ..

theorem ZoneParams.ofBytes_bytes {c : ZoneParams} (h : c.fits = true) (b0 b1 : Byte) :
    ZoneParams.ofBytes (b0 :: b1 :: c.bytes) = c := by
  simp only [ZoneParams.fits, Bool.and_eq_true] at h
  simp [ZoneParams.ofBytes, ZoneParams.bytes, wordAt, byteAt_cons_zero, byteAt_cons_succ, u16, maskBytes, u8_of_isByte,
    u16_of_isWord, maskBytes_read, h]

theorem SiteParams.ofBytes_bytes {c : SiteParams} (h : c.fits = true) : SiteParams.ofBytes c.bytes = c := by
  simp only [SiteParams.fits, Bool.and_eq_true] at h
  simp [SiteParams.ofBytes, SiteParams.bytes, wordAt, byteAt_cons_zero, byteAt_cons_succ, u16, maskBytes, u8_of_isByte,
    u16_of_isWord, maskBytes_read, h]

theorem zoneSetBytes_read (z : ZoneSet) :
    BitVec.ofNat 32 (65536 * (256 * (u8 (z.toNat / 16777216)).toNat + (u8 (z.toNat / 65536)).toNat)
      + (256 * (u8 (z.toNat / 256)).toNat + (u8 z.toNat).toNat)) = z := by
  have hz := z.isLt
  apply BitVec.eq_of_toNat_eq
  simp only [u8, BitVec.toNat_ofNat]
  omega

/-- The request a well-formed term names is read back from its parameters (R190). -/
theorem requestOf_request {c : Instr} {code : Nat} {p : List Byte} (hw : c.wf = true) (h : c.request = some (code, p))
    (hk : knownCode code = true) : requestOf code p = c := by
  cases c <;> cases h <;> simp only [Instr.wf, Bool.and_eq_true, decide_eq_true_eq] at hw
  case zoneSetInUse z u cfg =>
    obtain ⟨⟨⟨hz, hu⟩, hne⟩, hcfg⟩ := hw
    simp [requestOf, byteAt_cons_zero, byteAt_cons_succ, u8_of_isByte hz, u8_of_isByte hu, hne, ZoneParams.ofBytes_bytes hcfg]
  case zoneSetFree z cfg =>
    obtain ⟨hz, hcfg⟩ := hw
    have hfree : (u8 0).toNat = 0 := rfl
    simp [requestOf, byteAt_cons_zero, byteAt_cons_succ, u8_of_isByte hz, ZoneParams.ofBytes_bytes hcfg, hfree]
  case siteSet cfg => exact congrArg Instr.siteSet (SiteParams.ofBytes_bytes hw)
  case signSet i l a m zs f text =>
    simp [requestOf, wordAt, zoneSetBytes, byteAt_cons_zero, byteAt_cons_succ, u8_of_isByte, zoneSetBytes_read, hw]
  case eventsTake n m =>
    simp [requestOf, wordAt, maskBytes, u16, byteAt_cons_zero, byteAt_cons_succ, u8_of_isByte hw, maskBytes_read]
  case unknownRequest =>
    obtain ⟨⟨-, hunknown⟩, -⟩ := hw
    simp [hk] at hunknown
  all_goals simp [requestOf, wordAt, u16, byteAt_cons_zero, byteAt_cons_succ, u8_of_isByte, u16_of_isWord, hw]

/-! ## The request that parameters of a fitting length carry (R190) -/

theorem take_bytes {p : List Byte} {n : Nat} (h : n ≤ p.length) : p.take n = (List.range n).map fun i => u8 (byteAt p i) := by
  refine List.ext_getElem (by simp [h]) fun i hi _ => ?_
  have hip : i < p.length := by
    rw [List.length_take] at hi
    omega
  simp [byteAt, u8_toNat_self, List.getElem?_eq_getElem hip]

theorem bytes_of_length {p : List Byte} {n : Nat} (h : p.length = n) : p = (List.range n).map fun i => u8 (byteAt p i) := by
  rw [← take_bytes (Nat.le_of_eq h.symm), List.take_of_length_le (Nat.le_of_eq h)]

theorem u16_wordAt (p : List Byte) (i : Nat) : u16 (wordAt p i) = [u8 (byteAt p i), u8 (byteAt p (i + 1))] := by
  simp only [wordAt, byteAt, u16_of_bytes, u8_toNat_self]

theorem maskBytes_wordAt (p : List Byte) (i : Nat) :
    maskBytes (BitVec.ofNat 16 (wordAt p i)) = [u8 (byteAt p i), u8 (byteAt p (i + 1))] := by
  have hword : wordAt p i < 65536 := of_decide_eq_true (isWord_wordAt p i)
  rw [maskBytes, BitVec.toNat_ofNat, Nat.mod_eq_of_lt hword, u16_wordAt]

theorem ZoneParams.ofBytes_fits (p : List Byte) : (ZoneParams.ofBytes p).fits = true := by
  simp [ZoneParams.fits, ZoneParams.ofBytes, isByte_byteAt, isWord_wordAt]

theorem SiteParams.ofBytes_fits (p : List Byte) : (SiteParams.ofBytes p).fits = true := by
  simp [SiteParams.fits, SiteParams.ofBytes, isByte_byteAt, isWord_wordAt]

theorem zoneSetBytes_wordAt (p : List Byte) (i : Nat) :
    zoneSetBytes (BitVec.ofNat 32 (65536 * wordAt p i + wordAt p (i + 2))) =
      [u8 (byteAt p i), u8 (byteAt p (i + 1)), u8 (byteAt p (i + 2)), u8 (byteAt p (i + 2 + 1))] := by
  have hbyte : ∀ j, byteAt p j < 256 := fun j => of_decide_eq_true (isByte_byteAt p j)
  have h0 := hbyte i
  have h1 := hbyte (i + 1)
  have h2 := hbyte (i + 2)
  have h3 := hbyte (i + 2 + 1)
  have hnum : ∀ m n, m % 256 = n % 256 → u8 m = u8 n := fun m n hmn =>
    BitVec.eq_of_toNat_eq (by simpa only [u8, BitVec.toNat_ofNat] using hmn)
  simp only [zoneSetBytes, wordAt, BitVec.toNat_ofNat, List.cons.injEq, and_true]
  exact ⟨hnum _ _ (by omega), hnum _ _ (by omega), hnum _ _ (by omega), hnum _ _ (by omega)⟩

/-- The two forms of a request with a form byte have two lengths, and the first byte may name either (R190). -/
theorem length_of_form {f n a b : Nat} (h : (if f = 0 then n == a else if f = 1 then n == b else n == a || n == b) = true) :
    (n = a ∧ f ≠ 1) ∨ (n = b ∧ f ≠ 0) := by
  split at h
  · rename_i hzero
    exact .inl ⟨eq_of_beq h, by omega⟩
  · rename_i hzero
    split at h
    · exact .inr ⟨eq_of_beq h, hzero⟩
    · rename_i hone
      simp only [Bool.or_eq_true, beq_iff_eq] at h
      exact h.imp (⟨·, hone⟩) (⟨·, hzero⟩)

/-- Parameters of a length that the request of a known code takes carry a well-formed request, and are its parameters (R190). -/
theorem requestOf_wf {code : Nat} {p : List Byte} (hlen : p.length ≤ 64) (hf : lengthFits code p = true) :
    (requestOf code p).wf = true ∧ (requestOf code p).request = some (code, p) := by
  unfold lengthFits at hf
  dsimp only at hf
  split at hf
  case h_6 =>
    have hp := bytes_of_length (eq_of_beq hf)
    by_cases hfree : byteAt p 1 = 0
    · simp only [requestOf, if_pos hfree]
      refine ⟨by simp [Instr.wf, isByte_byteAt, ZoneParams.ofBytes_fits], ?_⟩
      have hzero : u8 0 = u8 (byteAt p 1) := by rw [hfree]
      conv => rhs; rw [hp]
      simp only [Instr.request, hzero, ZoneParams.bytes, ZoneParams.ofBytes, u16_wordAt, maskBytes_wordAt]
      rfl
    · simp only [requestOf, if_neg hfree]
      refine ⟨by simp [Instr.wf, isByte_byteAt, ZoneParams.ofBytes_fits, hfree], ?_⟩
      conv => rhs; rw [hp]
      simp only [Instr.request, ZoneParams.bytes, ZoneParams.ofBytes, u16_wordAt, maskBytes_wordAt]
      rfl
  case h_22 =>
    rcases length_of_form hf with ⟨hlong, hform⟩ | ⟨hshort, hform⟩
    · have hp := bytes_of_length hlong
      simp only [requestOf, if_pos hlong]
      refine ⟨by simp [Instr.wf, isByte_byteAt, isWord_wordAt, hform], ?_⟩
      conv => rhs; rw [hp]
      simp only [Instr.request, u16_wordAt]
      rfl
    · have hp := bytes_of_length hshort
      simp only [requestOf, if_neg (show ¬ p.length = 7 by omega)]
      refine ⟨by simp [Instr.wf, isByte_byteAt, hform], ?_⟩
      conv => rhs; rw [hp]
      rfl
  case h_23 =>
    rcases length_of_form hf with ⟨hlong, hform⟩ | ⟨hshort, hform⟩
    · have hp := bytes_of_length hlong
      simp only [requestOf, if_pos hlong]
      refine ⟨by simp [Instr.wf, isByte_byteAt, hform], ?_⟩
      conv => rhs; rw [hp]
      rfl
    · have hp := bytes_of_length hshort
      simp only [requestOf, if_neg (show ¬ p.length = 4 by omega)]
      refine ⟨by simp [Instr.wf, isByte_byteAt, hform], ?_⟩
      conv => rhs; rw [hp]
      rfl
  case h_29 =>
    have htext : p.length = 10 + byteAt p 9 := eq_of_beq hf
    have hdrop : (p.drop 10).length = byteAt p 9 := by rw [List.length_drop]; omega
    refine ⟨?_, ?_⟩
    · simp only [requestOf, Instr.wf, isByte_byteAt, Bool.and_eq_true, decide_eq_true_eq, true_and]
      omega
    · have hhead := take_bytes (p := p) (n := 10) (by omega)
      conv => rhs; rw [← List.take_append_drop 10 p, hhead]
      simp only [requestOf, Instr.request, zoneSetBytes_wordAt, hdrop]
      rfl
  case h_34 => cases hf
  all_goals
    have hp := bytes_of_length (eq_of_beq hf)
    refine ⟨by simp [requestOf, Instr.wf, isByte_byteAt, isWord_wordAt, SiteParams.ofBytes_fits], ?_⟩
    conv => rhs; rw [hp]
    simp only [requestOf, Instr.request, u16_wordAt, maskBytes_wordAt, SiteParams.bytes, SiteParams.ofBytes]
    rfl

/-! ## Frames (R180, R186) -/

theorem requestFrame_length (code : Nat) (p : List Byte) : (requestFrame code p).length = 5 + p.length := by
  simp [requestFrame, crc16Bytes, u16]
  omega

/-- The frame of a code and parameters that fit it passes the checks of R180 up to those of the code and the length. -/
theorem judge_requestFrame {code : Nat} {p : List Byte} (hc : code < 256) (hlen : p.length ≤ 64) :
    judge (requestFrame code p) = if knownCode code = false then .unknown code p
      else if lengthFits code p = false then .frame else .request (requestOf code p) := by
  have hsync : (requestFrame code p).getD 0 0#8 = syncByte := rfl
  have hcode : byteAt (requestFrame code p) 1 = code := u8_toNat code hc
  have hcount : byteAt (requestFrame code p) 2 = p.length := u8_toNat p.length (by omega)
  have hbody : (requestFrame code p).take (3 + p.length) = syncByte :: u8 code :: u8 p.length :: p := by
    rw [requestFrame, List.take_left' (by simp only [List.length_cons]; omega)]
  have hcrc : (requestFrame code p).drop (3 + p.length) = crc16Bytes (syncByte :: u8 code :: u8 p.length :: p) := by
    rw [requestFrame, List.drop_left' (by simp only [List.length_cons]; omega)]
  have hparams : ((requestFrame code p).drop 3).take p.length = p := List.take_left
  have hlength := requestFrame_length code p
  unfold judge
  rw [if_neg (by omega), if_neg (Classical.not_not.mpr hsync), hcount, if_neg (by omega), hbody, hcrc, if_neg (Classical.not_not.mpr rfl), hcode,
    hparams]

/-- Bytes that pass the checks of R180 before that of the code are a frame. -/
theorem frame_of_judge {bytes : List Byte} (h : judge bytes ≠ .frame) :
    ∃ code p, code < 256 ∧ p.length ≤ 64 ∧ bytes = requestFrame code p := by
  unfold judge at h
  split at h
  · exact absurd rfl h
  rename_i hlong
  obtain ⟨b0, b1, b2, rest, rfl⟩ : ∃ b0 b1 b2 rest, bytes = b0 :: b1 :: b2 :: rest := by
    rcases bytes with _ | ⟨b0, _ | ⟨b1, _ | ⟨b2, rest⟩⟩⟩
    case cons.cons.cons => exact ⟨b0, b1, b2, rest, rfl⟩
    all_goals exact absurd (by simp) hlong
  split at h
  · exact absurd rfl h
  rename_i hsync
  split at h
  · exact absurd rfl h
  rename_i hcount
  split at h
  · exact absurd rfl h
  rename_i hcrc
  have hb : byteAt (b0 :: b1 :: b2 :: rest) 2 = b2.toNat := rfl
  rw [hb, not_or, Nat.not_lt, Classical.not_not] at hcount
  obtain ⟨hfits, hlength⟩ := hcount
  simp only [List.length_cons] at hlength
  have hp : (rest.take b2.toNat).length = b2.toNat := by
    rw [List.length_take]
    omega
  have htake : (b0 :: b1 :: b2 :: rest).take (3 + b2.toNat) = b0 :: b1 :: b2 :: rest.take b2.toNat := by
    rw [Nat.add_comm]
    rfl
  have hdrop : (b0 :: b1 :: b2 :: rest).drop (3 + b2.toNat) = rest.drop b2.toNat := by
    rw [Nat.add_comm]
    rfl
  rw [hb, htake, hdrop, Classical.not_not] at hcrc
  have hb0 : b0 = syncByte := Classical.not_not.mp hsync
  refine ⟨b1.toNat, rest.take b2.toNat, b1.isLt, hp.symm ▸ hfits, ?_⟩
  unfold requestFrame
  simp only [hp, u8_toNat_self, ← hb0, hcrc, List.cons_append, List.take_append_drop]

/-- The code of a request that is none of the part's is the code of an unknown request alone (R180). -/
theorem unknown_of_code {c : Instr} {code : Nat} {p : List Byte} (h : c.request = some (code, p)) (hk : knownCode code = false) :
    c = .unknownRequest code p := by
  cases c <;> cases h
  case unknownRequest => rfl
  all_goals exact Bool.noConfusion hk

/-- A request that can reach the part fits a frame, and its parameters have a length that its code takes (R180, R190). -/
theorem request_fits (c : Instr) : Laws.RequestFits.Statement c := by
  intro hw code p h
  cases c <;> cases h
  case zoneSlotBind f z l a ch ref => exact Laws.RequestFits.zoneSlotBind f z l a ch ref hw _ _ rfl
  case zoneSlotUnbind f z n => exact Laws.RequestFits.zoneSlotUnbind f z n hw _ _ rfl
  case zoneStageBind f z l a => exact Laws.RequestFits.zoneStageBind f z l a hw _ _ rfl
  case zoneStageUnbind f z n => exact Laws.RequestFits.zoneStageUnbind f z n hw _ _ rfl
  case signSet i l a m zs f text => exact Laws.RequestFits.signSet i l a m zs f text hw _ _ rfl
  case unknownRequest => exact Laws.RequestFits.unknownRequest code p hw _ _ rfl
  all_goals exact ⟨by decide, Nat.le_of_ble_eq_true rfl, fun _ => rfl⟩

/-- The frame of a request is judged to be that request, or UNKNOWN where its code is none of the part's (R180). -/
theorem judge_request {c : Instr} {code : Nat} {p : List Byte} (hw : c.wf = true) (h : c.request = some (code, p)) :
    judge (requestFrame code p) = if knownCode code = true then .request c else .unknown code p := by
  obtain ⟨hcode, hlen, hfits⟩ := request_fits c hw code p h
  rw [judge_requestFrame hcode hlen]
  by_cases hk : knownCode code = true
  · rw [if_neg (by simp [hk]), if_neg (by simp [hfits hk]), if_pos hk, requestOf_request hw h hk]
  · rw [if_pos (by simpa using hk), if_neg hk]

/-- Bytes judged to be a request are that request's frame (R180, R186, R190). -/
theorem frame_of_request {bytes : List Byte} {c : Instr} (h : judge bytes = .request c) :
    c.wf = true ∧ ∃ code p, c.request = some (code, p) ∧ knownCode code = true ∧ bytes = requestFrame code p := by
  obtain ⟨code, p, hcode, hlen, rfl⟩ := frame_of_judge (bytes := bytes) (by rw [h]; exact nofun)
  rw [judge_requestFrame hcode hlen] at h
  split at h
  · cases h
  · rename_i hk
    split at h
    · cases h
    · rename_i hfits
      cases h
      obtain ⟨hwf, hrequest⟩ := requestOf_wf hlen (by simpa using hfits)
      exact ⟨hwf, code, p, hrequest, by simpa using hk, rfl⟩

/-- Bytes judged UNKNOWN are a frame with a code that is none of the part's (R180). -/
theorem wf_of_unknown {bytes : List Byte} {code : Nat} {p : List Byte} (h : judge bytes = .unknown code p) :
    (Instr.unknownRequest code p).wf = true := by
  obtain ⟨code', p', hcode, hlen, rfl⟩ := frame_of_judge (bytes := bytes) (by rw [h]; exact nofun)
  rw [judge_requestFrame hcode hlen] at h
  split at h
  · rename_i hk
    cases h
    simp [Instr.wf, isByte, hcode, hk, hlen]
  · split at h <;> cases h

theorem transactionOf_read (rest : List Byte) : transactionOf (readByte :: rest) = some (.read (rest.length + 1)) := rfl

section
variable {b : Byte} {rest : List Byte} (hb : b ≠ readByte)
include hb

theorem transactionOf_judged {c : Instr} (h : judge (b :: rest) = .request c) : transactionOf (b :: rest) = some c := by
  simp only [transactionOf, if_neg hb, h]

theorem transactionOf_unknown {code : Nat} {p : List Byte} (h : judge (b :: rest) = .unknown code p) :
    transactionOf (b :: rest) = some (.unknownRequest code p) := by
  simp only [transactionOf, if_neg hb, h]

theorem transactionOf_frame (h : judge (b :: rest) = .frame) :
    transactionOf (b :: rest) = some (.malformedRequest (b :: rest)) := by
  simp only [transactionOf, if_neg hb, h]

end

theorem transactionOf_requestFrame {c : Instr} {code : Nat} {p : List Byte} (hw : c.wf = true)
    (h : c.request = some (code, p)) : transactionOf (requestFrame code p) = some c := by
  have hjudge := judge_request hw h
  have hsync : ¬ syncByte = readByte := by decide
  have hframe : requestFrame code p = syncByte :: (requestFrame code p).tail := rfl
  rw [hframe] at hjudge ⊢
  by_cases hk : knownCode code = true
  · rw [if_pos hk] at hjudge
    exact transactionOf_judged hsync hjudge
  · rw [if_neg hk] at hjudge
    rw [transactionOf_unknown hsync hjudge, unknown_of_code h (by simpa using hk)]

/-- What a transaction is taken to be can reach the part (R179, R180). -/
theorem wf_of_transaction {bytes : List Byte} {c : Instr} (h : transactionOf bytes = some c) : c.wf = true := by
  cases bytes with
  | nil => cases h
  | cons b rest =>
    by_cases hb : b = readByte
    · subst hb
      cases (transactionOf_read rest).symm.trans h
      exact decide_eq_true (show 1 ≤ rest.length + 1 by omega)
    · cases hjudge : judge (b :: rest) with
      | frame =>
        have heq := transactionOf_frame hb hjudge
        cases heq.symm.trans h
        exact decide_eq_true heq
      | unknown code p =>
        cases (transactionOf_unknown hb hjudge).symm.trans h
        exact wf_of_unknown hjudge
      | request c' =>
        cases (transactionOf_judged hb hjudge).symm.trans h
        exact (frame_of_request hjudge).1

/-- Settles O15. -/
theorem requestFramesAreTakenExactly : Obligations.RequestFramesAreTakenExactly := by
  refine ⟨fun c code p hw h => judge_request hw h, fun bytes c h => frame_of_request h, rfl, fun rest => ?_,
    fun c code p hw h => transactionOf_requestFrame hw h, fun bytes c h => wf_of_transaction h⟩
  rw [Nat.add_comm]
  exact transactionOf_read rest

end Sys2Proof
end

section
/-! SUPPORT. What the effects of a node's bar, silence and retirement leave: the settings, S, the bands, the lines and the
members that only a node's own events write (R55, R56, R72, R88). -/

namespace Sys2Proof.Machine

/-! ## The frame of a node's effects -/

/-- The kinds that a node's silence and its return raise (R88). -/
def EventKind.ofNode (k : EventKind) : Prop := k = .nodeSilent ∨ k = .nodeBack

/-- What the effects of a node's bar or silence on the records of other owners leave (R56, R72). -/
structure State.EffectFrame (s t : State) : Prop where
  field : s.FieldFrame t
  lines : t.lines = s.lines
  sitePending : t.sitePending = s.sitePending
  fume : ∀ z, (t.zone z).S = (s.zone z).S ∧ (t.zone z).band = (s.zone z).band
  events : ∀ z, ∀ k : EventKind, k.ofNode → k.isIn (t.zone z).pending = k.isIn (s.zone z).pending

theorem State.EffectFrame.refl (s : State) : s.EffectFrame s := ⟨.refl s, rfl, rfl, fun _ => ⟨rfl, rfl⟩, fun _ _ _ => rfl⟩

theorem State.EffectFrame.trans {s t u : State} (h : s.EffectFrame t) (k : t.EffectFrame u) : s.EffectFrame u where
  field := h.field.trans k.field
  lines := k.lines.trans h.lines
  sitePending := k.sitePending.trans h.sitePending
  fume z := ⟨(k.fume z).1.trans (h.fume z).1, (k.fume z).2.trans (h.fume z).2⟩
  events z e he := (k.events z e he).trans (h.events z e he)

theorem State.EffectFrame.foldl {α : Type} {f : State → α → State} (hf : ∀ (s : State) a, s.EffectFrame (f s a)) (l : List α)
    (s : State) : s.EffectFrame (l.foldl f s) := by
  induction l generalizing s with
  | nil => exact .refl s
  | cons a l ih => exact (hf s a).trans (ih _)

theorem EventKind.ofNode.not_ofDemand {k : EventKind} (h : k.ofNode) : ¬ k.ofDemand := by
  rcases h with rfl | rfl <;> simp [EventKind.ofDemand]

theorem State.CensusFrame.field {s t : State} (h : s.CensusFrame t) (hbuffer : t.buffer = s.buffer) (hmiso : t.miso = s.miso) :
    s.FieldFrame t :=
  ⟨h.phase, h.ticks, h.ignoring, h.routes, h.site, h.edit, hbuffer, hmiso, h.pending, fun z => (h.zones z).settings, h.signs⟩

/-- One node record written (R65). -/
theorem State.setNode_effects (s : State) (id : NodeId) (n : Node) : s.EffectFrame (s.setNode id n) :=
  ⟨⟨rfl, rfl, rfl, rfl, rfl, rfl, rfl, rfl, rfl, fun _ => ⟨rfl, rfl, rfl, rfl⟩, fun _ => .refl _⟩, rfl, rfl,
    fun _ => ⟨rfl, rfl⟩, fun _ _ _ => rfl⟩

/-- A change of the bay table (R18). -/
theorem State.censusChange_effects (s : State) (changes : List (Nat × Bay)) : s.EffectFrame (s.censusChange changes) := by
  obtain ⟨hframe, -, hbuffer, hmiso, -⟩ := s.censusChange_frame changes
  refine ⟨hframe.field hbuffer hmiso, hframe.lines, hframe.sitePending, fun z => ⟨(hframe.zones z).S, (hframe.zones z).band⟩,
    fun z k hk => ?_⟩
  rw [s.zone_censusChange]
  split
  · exact ((s.zone z).takeTallies_keeps _).events k hk.not_ofDemand
  · rfl

theorem State.darkenRow_effects (s : State) (r : Nat) : s.EffectFrame (s.darkenRow r) := s.censusChange_effects _

/-- A change of a zone's slot list that is no sample (R95). -/
theorem State.withSlots_effects (s : State) (z : Nat) (slots : List Slot) :
    s.EffectFrame (s.changeZone z ((s.zone z).withSlots slots)) := by
  obtain ⟨hair, hkeeps⟩ := s.changeZone_withSlots z slots
  obtain ⟨-, hinUse, hcfg, hshed, hfloor, hS, hband, -⟩ := (s.zone z).reslotted_kept slots
  have hfume := s.changeZone_fumeFrame z ((s.zone z).withSlots slots) <| by
    have h := ((s.zone z).handOn_air ((s.zone z).reslotted slots)).settings
    exact Zone.SameSettings.trans ⟨hcfg, hinUse, hshed, hfloor⟩ h
  refine ⟨hfume.field, hfume.lines, hfume.sitePending, fun i => ?_, fun i k hk => ?_⟩ <;> by_cases hi : i = z
  · subst hi
    exact ⟨hair.S.trans hS, hair.band.trans hband⟩
  · rw [(s.changeZone_frame z _).zones i hi]
    exact ⟨rfl, rfl⟩
  · subst hi
    have hne : k ≠ .blind ∧ k ≠ .sighted := by rcases hk with rfl | rfl <;> simp
    rw [hkeeps.events k hk.not_ofDemand]
    refine ((Zone.isIn_reviewBlind (z := { s.zone i with slots := slots }) k).trans ?_)
    simp [hne]
  · rw [(s.changeZone_frame z _).zones i hi]

theorem State.staleGasNode_effects (s : State) (id : NodeId) : s.EffectFrame (s.staleGasNode id) :=
  .foldl (fun s z => s.withSlots_effects z _) _ s

/-! ## The stage of a silent fan (R119) -/

/-- The members of `y` and of `x` agree but for the kinds that the demand part and the fans raise. -/
def Zone.SameNodeEvents (x y : Zone) : Prop := ∀ k : EventKind, k.ofNode → k.isIn y.pending = k.isIn x.pending

theorem Zone.DemandKeeps.nodeEvents {x y : Zone} (h : x.DemandKeeps y) : x.SameNodeEvents y :=
  fun k hk => h.events k hk.not_ofDemand

theorem Zone.stepUpFailed_events (z : Zone) : z.SameNodeEvents z.stepUpFailed := by
  unfold Zone.stepUpFailed
  split
  · split
    · exact fun _ _ => rfl
    · exact z.endShort_keeps.nodeEvents
  · exact z.enterIdle_keeps.nodeEvents

theorem Zone.stepDownEnded_events (z : Zone) : z.SameNodeEvents z.stepDownEnded := by
  have hcount : z.countStep.pending = z.pending := by
    unfold Zone.countStep
    split <;> rfl
  unfold Zone.stepDownEnded Zone.enterDwell
  rw [Zone.SameNodeEvents, ← hcount]
  split
  · exact (Zone.enterIdle_keeps _).nodeEvents
  · exact fun _ _ => rfl

theorem Zone.faultStage_events (z : Zone) (i : Nat) (c : Cause) : z.SameNodeEvents (z.faultStage i c) := by
  have hraised : z.SameNodeEvents ((z.changeStage i (Stage.fail c)).raise .fanFault) := fun k hk => by
    refine (EventKind.isIn_raised _ _ _ _).trans ?_
    rcases hk with rfl | rfl <;> simp [Zone.changeStage]
  have hthen : ∀ y, ((z.changeStage i (Stage.fail c)).raise .fanFault).SameNodeEvents y → z.SameNodeEvents y :=
    fun y hy k hk => (hy k hk).trans (hraised k hk)
  unfold Zone.faultStage
  dsimp only
  split
  · exact hthen _ (Zone.tellSequencer_keeps _).nodeEvents
  · exact hthen _ (Zone.stepUpFailed_events _)
  · exact hthen _ ((Zone.figures_keeps _).trans (Zone.tellSequencer_keeps _)).nodeEvents
  · exact hthen _ (Zone.stepDownEnded_events _)
  · exact fun _ _ => rfl

theorem Zone.silenceStage_events (z : Zone) (i : Nat) : z.SameNodeEvents (z.silenceStage i) := by
  unfold Zone.silenceStage
  split
  · exact z.faultStage_events i .silent
  · exact z.faultStage_events i .silent
  all_goals exact fun _ _ => rfl

/-- One zone record written with its fume part and settings as they are. -/
theorem State.putZone_effects {s : State} {z : Nat} {x : Zone} (hair : (s.zone z).SameAir x) (hevents : (s.zone z).SameNodeEvents x) :
    s.EffectFrame (s.putZone z x) := by
  have h := s.putZone_handOver z x hair
  refine ⟨h.frame.field h.buffer h.miso, h.frame.lines, h.frame.sitePending,
    fun i => ⟨(h.frame.zones i).S, (h.frame.zones i).band⟩, fun i k hk => ?_⟩
  rw [State.zone_putZone]
  split
  · rename_i hi
    exact hi ▸ hevents k hk
  · rfl

theorem State.silenceFanNode_effects (s : State) (id : NodeId) : s.EffectFrame (s.silenceFanNode id) := by
  refine .foldl (fun s z => ?_) _ s
  split
  · exact State.putZone_effects (Zone.silenceStage_inputs _ _).air (Zone.silenceStage_events _ _)
  · exact .refl s

/-! ## A node's effects, by its kind -/

theorem State.abandonAnswer_effects (s : State) (id : NodeId) : s.EffectFrame (s.abandonAnswer id) := by
  unfold State.abandonAnswer
  split
  · split
    · exact .refl s
    · exact s.setNode_effects id _
  all_goals exact .refl s

theorem State.barEffects_effects (s : State) (id : NodeId) : s.EffectFrame (s.barEffects id) := by
  unfold State.barEffects
  split
  · exact s.darkenRow_effects _
  · exact s.staleGasNode_effects id
  · exact s.abandonAnswer_effects id
  all_goals exact .refl s

/-! ## The slots of a gas node (R95) -/

/-- A slot once the slots of node `id` have gone stale. -/
def Slot.staleOf (id : NodeId) (g : Slot) : Slot := if g.node = id then g.goStale else g

theorem Slot.staleOf_staleOf (id : NodeId) (g : Slot) : (g.staleOf id).staleOf id = g.staleOf id := by
  unfold Slot.staleOf
  by_cases h : g.node = id <;> simp [h, Slot.goStale]

theorem State.slots_changeZone_staleNode (s : State) (id : NodeId) (y z : Nat) :
    ((s.changeZone y ((s.zone y).staleNode id)).zone z).slots
      = if z = y then (s.zone z).slots.map (Slot.staleOf id) else (s.zone z).slots := by
  split
  · rename_i h
    subst h
    rw [(s.changeZone_air z _).slots, Zone.staleNode, Zone.withSlots_slots]
    rfl
  · rename_i h
    rw [(s.changeZone_frame y _).zones z h]

/-- Every slot that names the node goes stale, and no other (R95). -/
theorem State.slots_staleGasNode (s : State) (id : NodeId) {z : Nat} (hz : z < 32) :
    ((s.staleGasNode id).zone z).slots = (s.zone z).slots.map (Slot.staleOf id) := by
  have hfold : ∀ (l : List Nat) (s : State), ((l.foldl (fun s z => s.changeZone z ((s.zone z).staleNode id)) s).zone z).slots
      = if z ∈ l then (s.zone z).slots.map (Slot.staleOf id) else (s.zone z).slots := fun l => by
    induction l with
    | nil => exact fun s => rfl
    | cons y l ih =>
      intro s
      rw [List.foldl_cons, ih, s.slots_changeZone_staleNode]
      by_cases hy : z = y <;> by_cases hl : z ∈ l <;> simp [hy, hl, Slot.staleOf_staleOf]
  refine (hfold _ s).trans ?_
  split
  · rfl
  · rename_i hnot
    have hnone : ∀ g ∈ (s.zone z).slots, g.node ≠ id := fun g hg heq => by
      refine hnot ((s.mem_zonesWhere _ z).mpr ⟨hz, ?_⟩)
      exact List.any_eq_true.mpr ⟨g, hg, decide_eq_true heq⟩
    exact (List.map_id'' (fun g => rfl) _).symm.trans (List.map_congr_left fun g hg => by simp [Slot.staleOf, hnone g hg])

end Sys2Proof.Machine
end

section
/-! CERTIFICATE. NODE_BAR and NODE_UNBAR (R56, R57). -/

namespace Sys2Proof.Machine

section
variable (s : State) {id : NodeId}

theorem State.barEffects_none (h : (s.node id).service = .none ∨ (s.node id).service = .fan ∨ (s.node id).service = .sign) :
    s.barEffects id = s := by
  unfold State.barEffects
  rcases h with h | h | h <;> rw [h]

/-- The bays that a node's bar darkens: those of its row that are in service (R8, R56). -/
theorem State.bay_barEffects (b : Nat) : (s.barEffects id).bay b =
    if (s.node id).service.rowBinding.map (·.1) = some (b / 16) then
      (if (s.bay b).cls = .retired ∨ (s.bay b).census = .dark then s.bay b else (s.bay b).darkened)
    else s.bay b := by
  cases hv : (s.node id).service with
  | row r n g =>
    rw [s.barEffects_row hv, s.bay_darkenRow]
    simp only [Service.rowBinding, Option.map_some, Option.some.injEq, eq_comm (a := r)]
    by_cases hr : b / 16 = r
    · by_cases hcls : (s.bay b).cls = .retired <;> by_cases hdark : (s.bay b).census = .dark <;> simp [hr, hcls, hdark]
    · simp [hr]
  | gas =>
    rw [s.barEffects_gas hv]
    refine State.bay_of_bays ?_ b
    exact foldl_field (·.bays) _ (fun s z => (s.changeZone_frame z _).bays) _ s
  | entry e a =>
    rw [s.barEffects_entry hv]
    refine State.bay_of_bays ?_ b
    unfold State.abandonAnswer
    rw [hv]
    dsimp only
    split <;> rfl
  | none | fan | sign =>
    rw [s.barEffects_none (by simp [hv])]
    rfl

/-- The slots that a node's bar makes stale (R56, R95). -/
theorem State.slots_barEffects {z : Nat} (hz : z < 32) : ((s.barEffects id).zone z).slots =
    (s.zone z).slots.map fun g => if (s.node id).service = .gas ∧ g.node = id then g.goStale else g := by
  cases hv : (s.node id).service with
  | gas =>
    rw [s.barEffects_gas hv, s.slots_staleGasNode id hz]
    simp only [true_and]
    rfl
  | row r n g =>
    have hslots : ((s.darkenRow r).zone z).slots = (s.zone z).slots := ((s.censusChange_frame _).1.zones z).slots
    rw [s.barEffects_row hv, hslots]
    simp
  | entry e a =>
    rw [s.barEffects_entry hv]
    unfold State.abandonAnswer
    rw [hv]
    dsimp only
    split <;> simp
  | none | fan | sign =>
    rw [s.barEffects_none (by simp [hv])]
    simp

/-- A node's bar leaves every other node's record but for marks and light sets. -/
theorem State.nodes_barEffects {j : NodeId} (hj : j.key ≠ id.key) : (s.node j).SameLink ((s.barEffects id).node j) := by
  unfold State.barEffects
  split
  · exact (s.censusChange_frame _).1.nodes j
  · exact s.staleGasNode_links id j
  · unfold State.abandonAnswer
    split
    · split
      · exact .refl _
      · rw [State.node_setNode, if_neg hj]
        exact .refl _
    all_goals exact .refl _
  all_goals exact .refl _

/-- The record of the node itself: its binding and its link fields stay, and an open answer is abandoned (R56, R138). -/
theorem State.node_barEffects : let n := (s.barEffects id).node id
    n.state = (s.node id).state ∧ n.misses = (s.node id).misses ∧ n.toggle = (s.node id).toggle ∧ n.marker = (s.node id).marker
      ∧ n.service.kind = (s.node id).service.kind ∧ n.service.rowBinding = (s.node id).service.rowBinding
      ∧ ∀ e a, (s.node id).service = .entry e a → n.service = .entry e .ready := by
  have hlink : ∀ n, (s.node id).SameLink n → (∀ e a, (s.node id).service ≠ .entry e a) →
      n.state = (s.node id).state ∧ n.misses = (s.node id).misses ∧ n.toggle = (s.node id).toggle ∧ n.marker = (s.node id).marker
      ∧ n.service.kind = (s.node id).service.kind ∧ n.service.rowBinding = (s.node id).service.rowBinding
      ∧ ∀ e a, (s.node id).service = .entry e a → n.service = .entry e .ready := fun n h hno =>
    ⟨h.state, h.misses, h.toggle, h.marker, h.kind, h.row, fun e a he => absurd he (hno e a)⟩
  cases hv : (s.node id).service with
  | row r n g =>
    rw [s.barEffects_row hv, ← hv]
    exact hlink _ ((s.censusChange_frame _).1.nodes id) fun e a => by simp [hv]
  | gas =>
    rw [s.barEffects_gas hv, ← hv]
    exact hlink _ (s.staleGasNode_links id id) fun e a => by simp [hv]
  | entry e a =>
    rw [s.barEffects_entry hv]
    unfold State.abandonAnswer
    rw [hv]
    dsimp only
    split
    · rename_i hready
      refine ⟨rfl, rfl, rfl, rfl, by rw [hv], by rw [hv], fun e' a' h => ?_⟩
      cases h
      rw [hv, hready]
    · rw [State.node_setNode_self]
      refine ⟨rfl, rfl, rfl, rfl, rfl, rfl, fun e' a' h => ?_⟩
      cases h
      rfl
  | none | fan | sign =>
    rw [s.barEffects_none (by simp [hv]), ← hv]
    exact hlink _ (.refl _) fun e a => by simp [hv]

end

/-! ## The requests -/

section
variable {s : State} (hs : s.Legal)
include hs

/-- What NODE_BAR refuses: a record that is OFF or of kind FAN or SIGN (R56). -/
theorem State.Legal.not_barrable_iff (id : NodeId) : (s.node id).state = .off ∨ (s.node id).service.barrable = false ↔
    (s.node id).service = .none ∨ (s.node id).service = .fan ∨ (s.node id).service = .sign := by
  rw [(hs.node id).off_iff_service]
  cases (s.node id).service <;> simp [Service.barrable]

end

/-- Settles O36. -/
theorem nodeBarAndNodeUnbarMoveTheNode : Obligations.NodeBarAndNodeUnbarMoveTheNode := by
  refine ⟨fun s l a h ho hs hl ha ha' => ?_, fun s l a h ho hl ha ha' => ?_⟩
  all_goals have hrange : ¬ nodeInRange l a = false := by simp [(nodeInRange_iff l a).mpr ⟨hl, ha, ha'⟩]
  · intro id v
    have hid : id.Exists := ⟨hl, ha, ha'⟩
    refine ⟨fun hkind => ?_, fun hbarred => ?_, fun hstate hfan hsign => ?_⟩
    · exact request_refused (c := .nodeBar l a) rfl h ho
        ((if_neg hrange).trans (if_pos ((hs.not_barrable_iff id).mpr hkind)))
    · obtain ⟨-, -, -, -, hbarrable, -⟩ := hs.node id
      have hgood : ¬ ((s.node id).state = .off ∨ (s.node id).service.barrable = false) := by simp [hbarred, hbarrable]
      exact request_ready_unchanged (c := .nodeBar l a) rfl h ho (a := doneEmpty)
        ((if_neg hrange).trans ((if_neg hgood).trans (if_pos hbarred)))
    · have hon : (s.node id).state ≠ .off := by rcases hstate with hst | hst <;> simp [hst]
      have hunbarred : ¬ (s.node id).state = .barred := by rcases hstate with hst | hst <;> simp [hst]
      have hgood : ¬ ((s.node id).state = .off ∨ (s.node id).service.barrable = false) := fun hbad => by
        rcases (hs.not_barrable_iff id).mp hbad with hv | hv | hv
        · exact hon ((hs.node id).off_iff_service.mpr hv)
        · exact hfan hv
        · exact hsign hv
      let u := s.setNode id { s.node id with state := .barred }
      have hself : u.node id = { s.node id with state := .barred } := s.node_setNode_self id _
      obtain ⟨t, ht, hdone, hsame, -, -⟩ := request_leaves (c := .nodeBar l a) (u := u.barEffects id) (payload := [])
        (owner := fun s => if nodeInRange l a = false then refuse s .range
          else if (s.node ⟨l, a⟩).state = .off ∨ (s.node ⟨l, a⟩).service.barrable = false then refuse s .state
          else if (s.node ⟨l, a⟩).state = .barred then (s, doneEmpty)
          else ((s.setNode ⟨l, a⟩ { s.node ⟨l, a⟩ with state := .barred }).barEffects ⟨l, a⟩, doneEmpty)) rfl h
        ((if_neg hrange).trans ((if_neg hgood).trans (if_neg hunbarred)))
      have heffects := (s.setNode_effects id _).trans (u.barEffects_effects id)
      have hnode : ∀ j, t.node j = (u.barEffects id).node j := State.node_of_nodes (by rw [hsame])
      have hzone : ∀ z, t.zone z = (u.barEffects id).zone z := State.zone_of_zones (by rw [hsame])
      have hbay : ∀ b, t.bay b = (u.barEffects id).bay b := State.bay_of_bays (by rw [hsame])
      obtain ⟨hst, hmisses, htoggle, hmarker, hkind, hrow, hentry⟩ := u.node_barEffects (id := id)
      rw [← hnode, hself] at hst hmisses htoggle hmarker hkind hrow
      rw [← hnode, hself] at hentry
      refine ⟨t, ht, hdone, hst, hmisses, htoggle, hmarker, hkind, hrow, hentry, fun j hj hne => ?_, fun b => ?_, fun z hz => ?_,
        fun z => ?_, ?_⟩
      · have hkey := NodeId.key_ne hj hid hne
        have hset : u.node j = s.node j := by rw [State.node_setNode, if_neg hkey]
        rw [hnode, ← hset]
        exact u.nodes_barEffects hkey
      · rw [hbay, u.bay_barEffects, hself]
        rfl
      · rw [hzone, u.slots_barEffects hz, hself]
        rfl
      · obtain ⟨hS, hband⟩ := heffects.fume z
        rw [hzone]
        exact ⟨hS, hband, (heffects.field.cfg z).1, heffects.events z .nodeSilent (.inl rfl)⟩
      · obtain ⟨⟨-, hticks, hignoring, hroutes, hsite, hedit, -, -, -, -, hsigns⟩, hlines, hpending, -, -⟩ := heffects
        rw [hsame]
        exact ⟨hsigns, hlines, hroutes, hsite, hpending, hedit, hticks, hignoring⟩
  · refine ⟨fun hstate => ?_, fun hbarred => ?_⟩
    · exact request_refused (c := .nodeUnbar l a) rfl h ho ((if_neg hrange).trans (if_pos hstate))
    · have hne : ¬ (s.node ⟨l, a⟩).state ≠ .barred := Classical.not_not.mpr hbarred
      let n := (s.node ⟨l, a⟩).unbarred (s.line l).state
      refine ⟨_, request_answered_exact (c := .nodeUnbar l a) (t := s.setNode ⟨l, a⟩ n) (a := doneEmpty) rfl h
        ((if_neg hrange).trans (if_neg hne)) (ho.congr rfl rfl rfl rfl rfl), rfl, s.node_setNode_self ⟨l, a⟩ n, fun id hid hid' => ?_⟩
      exact (s.node_setNode ⟨l, a⟩ n id).trans (if_neg (NodeId.key_ne hid ⟨hl, ha, ha'⟩ hid'))

end Sys2Proof.Machine
end

section
/-! CERTIFICATE. NODE_RETIRE (R55). -/

namespace Sys2Proof.Machine

/-! ## A node record set OFF -/

section
variable (s : State) {id : NodeId}

theorem State.withoutNode_row {r n : Nat} {g : LightSet} (h : (s.node id).service = .row r n g) :
    s.withoutNode id = (s.setNode id Node.powerOn).darkenRow r := by
  unfold State.withoutNode
  rw [h]

theorem State.withoutNode_other (h : (s.node id).service.rowBinding = none) : s.withoutNode id = s.setNode id Node.powerOn := by
  unfold State.withoutNode
  split
  · rename_i hv
    rw [hv] at h
    cases h
  all_goals rfl

/-- A node record set OFF leaves what a change of the bay table leaves (R55). -/
theorem State.withoutNode_census : (s.setNode id Node.powerOn).CensusFrame (s.withoutNode id) := by
  cases hrow : (s.node id).service.rowBinding with
  | none =>
    rw [s.withoutNode_other hrow]
    exact .refl _
  | some p =>
    obtain ⟨g, hv⟩ := Service.rowBinding_eq_some.mp hrow
    rw [s.withoutNode_row hv]
    exact ((s.setNode id Node.powerOn).censusChange_frame _).1

theorem Bay.ite_darkened (b : Bay) (p : Prop) [Decidable p] :
    (if p ∧ b.cls ≠ .retired ∧ b.census ≠ .dark then b.darkened else b)
      = if p then (if b.cls = .retired ∨ b.census = .dark then b else b.darkened) else b := by
  by_cases hp : p
  · by_cases h : b.cls = .retired ∨ b.census = .dark
    · rw [if_pos hp, if_pos h, if_neg fun ⟨_, hcls, hdark⟩ => h.elim hcls hdark]
    · rw [if_pos hp, if_neg h, if_pos ⟨hp, not_or.mp h⟩]
  · rw [if_neg hp, if_neg fun h => hp h.1]

/-- The bays of a node that is set OFF go DARK (R8, R55). -/
theorem State.bay_withoutNode (b : Nat) : (s.withoutNode id).bay b =
    if (s.node id).service.rowBinding.map (·.1) = some (b / 16) then
      (if (s.bay b).cls = .retired ∨ (s.bay b).census = .dark then s.bay b else (s.bay b).darkened)
    else s.bay b := by
  cases hrow : (s.node id).service.rowBinding with
  | none =>
    rw [s.withoutNode_other hrow]
    rfl
  | some p =>
    obtain ⟨g, hv⟩ := Service.rowBinding_eq_some.mp hrow
    rw [s.withoutNode_row hv, State.bay_darkenRow, Bay.ite_darkened]
    simp only [Option.map_some, Option.some.injEq, eq_comm (a := p.1)]
    rfl

end

/-- What keeps a node from being retired: a slot, a stage or a sign names it (R55). -/
theorem State.nodeNamed_iff (s : State) (id : NodeId) : s.nodeNamed id = true ↔
    (∃ z, z < 32 ∧ ((∃ g ∈ (s.zone z).slots, g.node = id) ∨ ∃ g ∈ (s.zone z).stages, g.node = id))
      ∨ ∃ i, i < 32 ∧ (s.sign i).node = some id := by
  simp [State.nodeNamed, Zone.hasSlotOf, Zone.hasStageOf, zoneNumbers, signNumbers, Config.zoneCount, Config.signCount]

/-- A line whose last node has gone OFF is IDLE, and no other line is written (R64). -/
theorem State.line_reviewLine (s : State) (l i : Nat) :
    (s.reviewLine l).line i = if i = l ∧ s.lineHasNodes l = false then (s.line l).stopped else s.line i := by
  unfold State.reviewLine
  cases h : s.lineHasNodes l with
  | true => simp
  | false =>
    rw [if_neg (by simp), State.line_setLine]
    simp

theorem State.reviewLine_eq (s : State) (l : Nat) : s.reviewLine l = { s with lines := (s.reviewLine l).lines } := by
  unfold State.reviewLine
  split <;> rfl

section
variable {s : State} (hs : s.Legal) {l a : Nat} (hid : NodeId.Exists ⟨l, a⟩) (hnamed : s.nodeNamed ⟨l, a⟩ = false)
include hs hid hnamed

theorem State.withoutNode_legal : (s.withoutNode ⟨l, a⟩).Legal :=
  (State.withoutNode_keeps (B := fun _ => False) hs hid hnamed).legal

/-- A line keeps another node once one of its nodes is OFF, or it does not (R64). -/
theorem State.lineHasNodes_withoutNode : (s.withoutNode ⟨l, a⟩).lineHasNodes l = true ↔
    ∃ y ∈ List.range 64, 1 ≤ y ∧ y ≠ a ∧ (s.node ⟨l, y⟩).state ≠ .off := by
  obtain ⟨-, hoff, hlinks⟩ := s.withoutNode_frame ⟨l, a⟩
  have hother : ∀ y, 1 ≤ y → y ≤ 63 → y ≠ a →
      ((s.withoutNode ⟨l, a⟩).node ⟨l, y⟩).state = (s.node ⟨l, y⟩).state := fun y hy hy' hne =>
    (hlinks ⟨l, y⟩ (NodeId.key_ne ⟨hid.1, hy, hy'⟩ hid fun heq => hne (congrArg NodeId.address heq))).state
  rw [(State.withoutNode_legal hs hid hnamed).lineHasNodes_iff]
  constructor
  · rintro ⟨y, hy, hy', hlive⟩
    have hne : y ≠ a := fun heq => hlive (heq ▸ hoff)
    exact ⟨y, List.mem_range.mpr (by omega), hy, hne, hother y hy hy' hne ▸ hlive⟩
  · rintro ⟨y, hmem, hy, hne, hlive⟩
    have hy' : y < 64 := List.mem_range.mp hmem
    exact ⟨y, hy, by omega, (hother y hy (by omega) hne).symm ▸ hlive⟩

end

/-- Settles O35. -/
theorem nodeRetireSetsTheNodeOff : Obligations.NodeRetireSetsTheNodeOff := by
  intro s l a h ho hs hl ha ha' id named
  have hid : id.Exists := ⟨hl, ha, ha'⟩
  have hrange : ¬ nodeInRange l a = false := by simp [(nodeInRange_iff l a).mpr hid]
  refine ⟨fun hbad => ?_, fun hon hfree => ?_⟩
  · exact request_refused (c := .nodeRetire l a) rfl h ho
      ((if_neg hrange).trans (if_pos (hbad.imp_right (s.nodeNamed_iff id).mpr)))
  · have hnot : ¬ s.nodeNamed id = true := fun hn => hfree ((s.nodeNamed_iff id).mp hn)
    have hnamed : s.nodeNamed id = false := by simpa using hnot
    let w := s.withoutNode id
    let x := (s.line l).retiring a
    let u := w.setLine l x
    obtain ⟨t, ht, hdone, hsame, -, -⟩ := request_leaves (c := .nodeRetire l a) (u := u.reviewLine l) (payload := [])
      (owner := fun s => if nodeInRange l a = false then refuse s .range
        else if (s.node ⟨l, a⟩).state = .off ∨ s.nodeNamed ⟨l, a⟩ = true then refuse s .state
        else (((s.withoutNode ⟨l, a⟩).setLine l ((s.line l).retiring a)).reviewLine l, doneEmpty)) rfl h
      ((if_neg hrange).trans (if_neg (not_or.mpr ⟨hon, hnot⟩)))
    have htw : t = { w with lines := t.lines, buffer := t.buffer, miso := t.miso, out := t.out } := by
      have hlinesOf : t.lines = (u.reviewLine l).lines := by rw [hsame]
      rw [hlinesOf]
      refine hsame.trans ?_
      rw [u.reviewLine_eq]
      rfl
    have hcensus : (s.setNode id Node.powerOn).CensusFrame w := s.withoutNode_census
    obtain ⟨hlines, hoff, hlinks⟩ := s.withoutNode_frame id
    have hlegal : w.Legal := State.withoutNode_legal hs hid hnamed
    have hnode : ∀ j, t.node j = w.node j := State.node_of_nodes (by rw [htw])
    have hbay : ∀ b, t.bay b = w.bay b := State.bay_of_bays (by rw [htw])
    have hzone : ∀ z, t.zone z = w.zone z := State.zone_of_zones (by rw [htw])
    have hline : ∀ i, t.line i = if i = l ∧ w.lineHasNodes l = false then x.stopped else if i = l then x else s.line i := by
      intro i
      have hreview : t.line i = (u.reviewLine l).line i := by
        rw [hsame]
        rfl
      have hwi : w.line i = s.line i := by
        unfold State.line
        rw [hlines]
      rw [hreview, u.line_reviewLine, State.line_setLine_self, State.line_setLine, hwi]
      rfl
    refine ⟨t, ht, hdone, ?_, fun j hj hne => ?_, fun b => ?_, fun hagree => ?_, fun z => ?_, fun i => ?_, ?_, fun i hi => ?_, ?_⟩
    · rw [hnode]
      exact (hlegal.node id).off_iff.mp hoff
    · rw [hnode]
      exact hlinks j (NodeId.key_ne hj hid hne)
    · rw [hbay, s.bay_withoutNode]
      rfl
    · have hkept := (State.retire_keeps (B := fun _ => False) hs hid hon hnamed).tallies ((State.talliesBut_nil s).mpr hagree)
      refine (State.talliesBut_nil t).mp (hkept.of_same ?_ fun z _ _ => ?_) <;> rw [hsame]
      exact ⟨rfl, rfl, rfl⟩
    · rw [hzone]
      exact hcensus.zones z
    · have hsign : t.sign i = w.sign i := by
        rw [htw]
        rfl
      rw [hsign]
      exact hcensus.signs i
    · rw [hline l]
      by_cases hmore : w.lineHasNodes l = true
      · rw [if_neg (by simp [hmore]), if_pos rfl, if_pos ((State.lineHasNodes_withoutNode hs hid hnamed).mp hmore)]
        rfl
      · rw [if_pos ⟨rfl, by simpa using hmore⟩, if_neg fun hy => hmore ((State.lineHasNodes_withoutNode hs hid hnamed).mpr hy)]
        rfl
    · rw [hline i, if_neg fun h => hi h.1, if_neg hi]
    · rw [htw]
      exact ⟨hcensus.routes, hcensus.site, hcensus.sitePending, hcensus.edit, hcensus.ticks, hcensus.ignoring⟩

end Sys2Proof.Machine
end

section
/-! SUPPORT. How a zone's own sequencer moves its stages: a stage that it moves goes STARTING from IDLE or STOPPING from RUNNING
(R120 to R123). -/

namespace Sys2Proof.Machine

/-! ## A stage moved by the sequencer -/

/-- Stage `h` is `g` after steps of the sequencer under this rundown time: none of them faults a stage, and only an IDLE and a
RUNNING stage move (R121, R123). -/
def Stage.SteppedTo (ticks : Nat) (g h : Stage) : Prop :=
  h = g ∨ (g.status = .idle ∧ h.node = g.node ∧ h.status ≠ .faulted) ∨ (g.status = .running ∧ h = g.stop ticks)

theorem Stage.SteppedTo.refl (ticks : Nat) (g : Stage) : g.SteppedTo ticks g := .inl rfl

theorem Stage.SteppedTo.trans {ticks : Nat} {g h k : Stage} (a : g.SteppedTo ticks h) (b : h.SteppedTo ticks k) :
    g.SteppedTo ticks k := by
  rcases a with rfl | ⟨hidle, hnode, hfault⟩ | ⟨hrun, rfl⟩
  · exact b
  · rcases b with rfl | ⟨-, hnode', hk⟩ | ⟨-, rfl⟩
    · exact .inr (.inl ⟨hidle, hnode, hfault⟩)
    · exact .inr (.inl ⟨hidle, hnode'.trans hnode, hk⟩)
    · exact .inr (.inl ⟨hidle, hnode, StageStatus.noConfusion⟩)
  · rcases b with rfl | ⟨hk, -⟩ | ⟨hk, -⟩
    · exact .inr (.inr ⟨hrun, rfl⟩)
    · exact StageStatus.noConfusion hk
    · exact StageStatus.noConfusion hk

theorem Stage.SteppedTo.faulted {ticks : Nat} {g h : Stage} (a : g.SteppedTo ticks h) : h.status = .faulted ↔ g.status = .faulted := by
  rcases a with rfl | ⟨hidle, -, hfault⟩ | ⟨hrun, rfl⟩
  · exact Iff.rfl
  · simp [hidle, hfault]
  · simp [hrun, Stage.stop]

theorem Stage.SteppedTo.node {ticks : Nat} {g h : Stage} (a : g.SteppedTo ticks h) : h.node = g.node := by
  rcases a with rfl | ⟨-, hnode, -⟩ | ⟨-, rfl⟩
  · rfl
  · exact hnode
  · rfl

/-- A stage that is neither IDLE nor RUNNING is left. -/
theorem Stage.SteppedTo.eq_of_busy {ticks : Nat} {g h : Stage} (a : g.SteppedTo ticks h) (hidle : g.status ≠ .idle)
    (hrun : g.status ≠ .running) : h = g :=
  a.resolve_right fun b => b.elim (fun c => hidle c.1) fun c => hrun c.1

/-- Record `y` is `x` after steps of its sequencer: it has the stages of `x`, each of them as the steps leave it. -/
structure Zone.Stepped (x y : Zone) : Prop where
  cfg : y.cfg = x.cfg
  length : y.stages.length = x.stages.length
  getElem? : ∀ {i : Nat} {g : Stage}, x.stages[i]? = some g →
    ∃ g', y.stages[i]? = some g' ∧ g.SteppedTo x.cfg.rundownTicks g'

theorem Zone.Stepped.of_stages {x y : Zone} (hcfg : y.cfg = x.cfg) (h : y.stages = x.stages) : x.Stepped y :=
  ⟨hcfg, congrArg List.length h, fun {_ g} hg => ⟨g, h ▸ hg, .refl _ g⟩⟩

theorem Zone.Stepped.refl (x : Zone) : x.Stepped x := .of_stages rfl rfl

theorem Zone.Stepped.trans {x y z : Zone} (h : x.Stepped y) (k : y.Stepped z) : x.Stepped z where
  cfg := k.cfg.trans h.cfg
  length := k.length.trans h.length
  getElem? := fun hg => by
    obtain ⟨g', hg', hstep⟩ := h.getElem? hg
    obtain ⟨g'', hg'', hstep'⟩ := k.getElem? hg'
    exact ⟨g'', hg'', hstep.trans (h.cfg ▸ hstep')⟩

/-- Every stage after the steps was a stage before them. -/
theorem Zone.Stepped.getElem?_before {x y : Zone} (h : x.Stepped y) {i : Nat} {g' : Stage} (hg' : y.stages[i]? = some g') :
    ∃ g, x.stages[i]? = some g ∧ g.SteppedTo x.cfg.rundownTicks g' := by
  have hi : i < x.stages.length := h.length ▸ (List.getElem?_eq_some_iff.mp hg').1
  obtain ⟨k, hk, hstep⟩ := h.getElem? (List.getElem?_eq_getElem hi)
  obtain rfl : k = g' := Option.some.inj (hk.symm.trans hg')
  exact ⟨_, List.getElem?_eq_getElem hi, hstep⟩

theorem Zone.Stepped.names {x y : Zone} (h : x.Stepped y) : y.stages.map (·.node) = x.stages.map (·.node) := by
  refine List.ext_getElem? fun i => ?_
  rw [List.getElem?_map, List.getElem?_map]
  cases hy : y.stages[i]? with
  | none => rw [List.getElem?_eq_none (h.length ▸ List.getElem?_eq_none_iff.mp hy)]
  | some g' =>
    obtain ⟨g, hg, hstep⟩ := h.getElem?_before hy
    rw [hg]
    exact congrArg some hstep.node

/-- The sequencer faults no stage and returns none (R118, R126). -/
theorem Zone.Stepped.faulted_iff {x y : Zone} (h : x.Stepped y) :
    (∃ g ∈ y.stages, g.status = .faulted) ↔ ∃ g ∈ x.stages, g.status = .faulted := by
  constructor
  · rintro ⟨g', hmem, hf⟩
    obtain ⟨i, hi⟩ := List.mem_iff_getElem?.mp hmem
    obtain ⟨g, hg, hstep⟩ := h.getElem?_before hi
    exact ⟨g, List.mem_of_getElem? hg, hstep.faulted.mp hf⟩
  · rintro ⟨g, hmem, hf⟩
    obtain ⟨i, hi⟩ := List.mem_iff_getElem?.mp hmem
    obtain ⟨g', hg', hstep⟩ := h.getElem? hi
    exact ⟨g', List.mem_of_getElem? hg', hstep.faulted.mpr hf⟩

/-! ## The operations of the sequencer -/

variable (z : Zone)

theorem Zone.changeStage_stepped {i : Nat} {g : Stage} (hg : z.stages[i]? = some g) {f : Stage → Stage}
    (hf : g.SteppedTo z.cfg.rundownTicks (f g)) : z.Stepped (z.changeStage i f) :=
  ⟨rfl, changeAt_length f z.stages i, fun {j k} hk => by
    refine ⟨if j = i then f k else k, ?_, ?_⟩
    · show (changeAt f z.stages i)[j]? = _
      rw [getElem?_changeAt, hk]
      split <;> rfl
    · split
      · rename_i hj
        obtain rfl : k = g := Option.some.inj (hk.symm.trans (hj ▸ hg))
        exact hf
      · exact .refl _ k⟩

theorem Zone.figures_stepped : z.Stepped z.figures := .of_stages rfl rfl

theorem Zone.endSequence_stepped (o : SeqOutcome) : z.Stepped (z.endSequence o) := by
  unfold Zone.endSequence
  split <;> exact .of_stages rfl rfl

theorem Zone.step_stepped (d : Direction) : z.Stepped (z.step d) := by
  cases d with
  | up =>
    show z.Stepped z.stepUp
    unfold Zone.stepUp
    split
    · rename_i i hi
      obtain ⟨⟨g, hg, hidle⟩, -⟩ := firstPlace_eq_some.mp hi
      have hmoved := z.changeStage_stepped hg (f := Stage.start z.cfg.proofTicks) (.inr (.inl ⟨of_decide_eq_true hidle, rfl, StageStatus.noConfusion⟩))
      exact ⟨rfl, hmoved.length, hmoved.getElem?⟩
    · exact .of_stages z.endShort_inputs.air.cfg z.endShort_stages
  | down =>
    show z.Stepped z.stepDown
    unfold Zone.stepDown
    split
    · rename_i i hi
      obtain ⟨⟨g, hg, hrun⟩, -⟩ := lastPlace_meets hi
      have hmoved := z.changeStage_stepped hg (f := Stage.stop z.cfg.rundownTicks) (.inr (.inr ⟨of_decide_eq_true hrun, rfl⟩))
      exact ⟨rfl, hmoved.length, hmoved.getElem?⟩
    · exact .refl z

theorem Zone.setSequencer_stepped (seq : SeqState) (dwell : Nat) (sequence : Option Sequence) (shortHold : Bool) :
    z.Stepped { z with seq := seq, dwell := dwell, sequence := sequence, shortHold := shortHold } := .of_stages rfl rfl

theorem Zone.beginSequence_stepped : z.Stepped z.beginSequence :=
  (z.setSequencer_stepped z.seq z.dwell _ z.shortHold).trans (Zone.step_stepped _ _)

theorem Zone.reEvaluate_stepped : z.Stepped z.reEvaluate := by
  unfold Zone.reEvaluate
  split
  · split
    · exact .refl z
    · exact z.beginSequence_stepped
  · split
    · exact z.endSequence_stepped .done
    · split
      · exact (z.setSequencer_stepped z.seq z.dwell _ z.shortHold).trans (Zone.step_stepped _ _)
      · exact (z.endSequence_stepped .cut).trans (Zone.beginSequence_stepped _)

theorem Zone.enterIdle_stepped : z.Stepped z.enterIdle :=
  (z.setSequencer_stepped .idle 0 z.sequence z.shortHold).trans (Zone.reEvaluate_stepped _)

theorem Zone.tellSequencer_stepped : z.Stepped z.tellSequencer := by
  unfold Zone.tellSequencer
  split
  · exact (z.setSequencer_stepped z.seq z.dwell z.sequence false).trans (Zone.reEvaluate_stepped _)
  · exact .refl z

/-- A change of the demand part moves stages by its sequencer only (R112, R120). -/
theorem Zone.demandChange_stepped (p : Bool) : z.Stepped (z.demandChange p) := by
  unfold Zone.demandChange
  dsimp only
  split
  · exact z.figures_stepped.trans (Zone.enterIdle_stepped _)
  · split
    · exact z.figures_stepped
    · exact z.figures_stepped.trans (Zone.tellSequencer_stepped _)

theorem Zone.raise_stepped (k : EventKind) : z.Stepped (z.raise k) := .of_stages rfl rfl

theorem Zone.raiseIf_stepped (b : Bool) (k : EventKind) : z.Stepped (z.raiseIf b k) := by
  cases b
  · exact .refl z
  · exact z.raise_stepped k

/-- New tallies move stages by the sequencer only (R20, R110). -/
theorem Zone.takeTallies_stepped (t : Tallies) : z.Stepped (z.takeTallies t) := by
  have hset : z.Stepped { z with tallies := t } := .of_stages rfl rfl
  have hraised : ∀ b c, z.Stepped ((({ z with tallies := t } : Zone).raiseIf b .full).raiseIf c .opened) := fun b c =>
    (hset.trans (Zone.raiseIf_stepped _ b .full)).trans (Zone.raiseIf_stepped _ c .opened)
  unfold Zone.takeTallies
  dsimp only
  split
  · exact (hraised _ _).trans (Zone.demandChange_stepped _ _)
  · exact hraised _ _

/-- A fume record handed on moves stages by the sequencer only (R112). -/
theorem Zone.handOn_stepped {x : Zone} (h : z.Stepped x) : z.Stepped (z.handOn x) := by
  unfold Zone.handOn
  split
  · exact h
  · exact h.trans (Zone.demandChange_stepped _ _)

theorem Zone.withSlots_stepped (slots : List Slot) : z.Stepped (z.withSlots slots) :=
  z.handOn_stepped (.of_stages (z.reslotted_kept slots).2.2.1 (z.reslotted_kept slots).1)

end Sys2Proof.Machine
end

section
/-! CERTIFICATE. CLEAR (R184). -/

namespace Sys2Proof.Machine

/-! ## What each part of CLEAR leaves -/

/-- What the hand-overs of CLEAR leave: everything but zone records, node records and the computed values of signs. -/
structure State.ClearFrame (s t : State) : Prop where
  phase : t.phase = s.phase
  ticks : t.ticks = s.ticks
  ignoring : t.ignoring = s.ignoring
  bays : t.bays = s.bays
  routes : t.routes = s.routes
  site : t.site = s.site
  edit : t.edit = s.edit
  lines : t.lines = s.lines
  signs : ∀ i, (s.sign i).SameFields (t.sign i)

theorem State.ClearFrame.refl (s : State) : s.ClearFrame s := ⟨rfl, rfl, rfl, rfl, rfl, rfl, rfl, rfl, fun _ => .refl _⟩

theorem State.ClearFrame.trans {s t u : State} (h : s.ClearFrame t) (k : t.ClearFrame u) : s.ClearFrame u :=
  ⟨k.phase.trans h.phase, k.ticks.trans h.ticks, k.ignoring.trans h.ignoring, k.bays.trans h.bays, k.routes.trans h.routes,
    k.site.trans h.site, k.edit.trans h.edit, k.lines.trans h.lines, fun i => (h.signs i).trans (k.signs i)⟩

theorem State.ZoneFrame.clearFrame {s t : State} {z : Nat} (h : s.ZoneFrame z t) : s.ClearFrame t :=
  ⟨h.phase, h.ticks, h.ignoring, h.bays, h.routes, h.site, h.edit, h.lines, h.signs⟩

theorem State.HandOver.clearFrame {s t : State} (h : s.HandOver t) : s.ClearFrame t :=
  ⟨h.frame.phase, h.frame.ticks, h.frame.ignoring, h.bays, h.frame.routes, h.frame.site, h.frame.edit, h.frame.lines,
    h.frame.signs⟩

theorem State.ClearFrame.foldl {α : Type} {f : State → α → State} (hf : ∀ (s : State) a, s.ClearFrame (f s a)) (l : List α)
    (s : State) : s.ClearFrame (l.foldl f s) := by
  induction l generalizing s with
  | nil => exact .refl s
  | cons a l ih => exact (hf s a).trans (ih _)

/-! ## Marks set already -/

/-- Output pending is set on every bound node (R67). -/
def State.AllMarked (s : State) : Prop := ∀ j, (s.node j).marked = s.node j

/-- The node records of `t` are those of `s`, where output pending is set on every bound node of `s`. -/
def State.MarksOnly (s t : State) : Prop := s.AllMarked → ∀ j, t.node j = s.node j

theorem State.MarksOnly.trans {s t u : State} (h : s.MarksOnly t) (k : t.MarksOnly u) : s.MarksOnly u := fun hs j => by
  have ht : t.AllMarked := fun j => by rw [h hs j]; exact hs j
  exact (k ht j).trans (h hs j)

theorem State.MarksOnly.foldl {α : Type} {f : State → α → State} (hf : ∀ (s : State) a, s.MarksOnly (f s a)) (l : List α)
    (s : State) : s.MarksOnly (l.foldl f s) := by
  induction l generalizing s with
  | nil => exact fun _ _ => rfl
  | cons a l ih => exact (hf s a).trans (ih _)

theorem State.markOutput_marksOnly (s : State) (id : NodeId) : s.MarksOnly (s.markOutput id) := fun hs j => by
  rw [s.node_markOutput, hs j, ite_self]

theorem State.putZone_marksOnly (s : State) (z : Nat) (x : Zone) : s.MarksOnly (s.putZone z x) :=
  State.MarksOnly.trans (t := s.setZone z x) (fun _ _ => rfl) (.foldl State.markOutput_marksOnly _ _)

theorem State.recomputeSign_marksOnly (s : State) (i : Nat) : s.MarksOnly (s.recomputeSign i) := by
  unfold State.recomputeSign
  dsimp only
  split
  · exact fun _ _ => rfl
  · split
    · intro hs j
      rw [State.node_markSignNode]
      exact (ite_congr rfl (fun _ => hs j) fun _ => rfl).trans (ite_self _)
    · exact fun _ _ => rfl

/-! ## The signs recomputed -/

/-- A sign with its value computed (R150). -/
def State.counted (s : State) (g : Sign) : Sign := { g with value := s.signCount g.zones g.filter }

theorem State.counted_counted (s : State) (g : Sign) : s.counted (s.counted g) = s.counted g := rfl

theorem State.sign_recomputeSign (s : State) (i j : Nat) :
    (s.recomputeSign i).sign j = if j = i then s.counted (s.sign i) else s.sign j := by
  unfold State.recomputeSign
  dsimp only
  split
  · rename_i hsame
    split
    · rename_i hj
      rw [hj, State.counted, hsame]
    · rfl
  · have hset := s.sign_setSign i (s.counted (s.sign i)) j
    split
    · rw [State.markSignNode_eq]
      exact hset
    · exact hset

/-- A recomputed sign leaves the counts that signs are computed from. -/
theorem State.counted_of_zones {s t : State} (h : t.zones = s.zones) (g : Sign) : t.counted g = s.counted g := by
  simp only [State.counted, State.signCount, State.zone_of_zones h]

theorem State.sign_recomputeSigns (l : List Nat) (s : State) {i : Nat} (hi : i ∈ l) :
    (l.foldl State.recomputeSign s).sign i = s.counted (s.sign i) := by
  have hfold : ∀ (l : List Nat) (s : State) (i : Nat), (l.foldl State.recomputeSign s).sign i
      = if i ∈ l then s.counted (s.sign i) else s.sign i := fun l => by
    induction l with
    | nil => exact fun s i => rfl
    | cons k l ih =>
      intro s i
      rw [List.foldl_cons, ih, State.counted_of_zones (s.recomputeSign_zones k), s.sign_recomputeSign]
      by_cases hk : i = k <;> by_cases hl : i ∈ l <;> simp [hk, hl, State.counted]
  rw [hfold, if_pos hi]

/-! ## The zone records -/

theorem State.tallyOf_putZone (s : State) {z : Nat} {x : Zone} (inUse : x.inUse = (s.zone z).inUse) (shed : x.shed = (s.zone z).shed)
    (y : Nat) : (s.putZone z x).tallyOf y = s.tallyOf y := by
  refine State.tallyOf_congr (s.putZone_bays z x) ?_ ?_ <;> rw [s.zone_putZone] <;> split
  · rename_i hy
    rw [inUse, hy]
  · rfl
  · rename_i hy
    rw [shed, hy]
  · rfl

/-- Each zone record cleared once, with the tallies that its bays give. -/
theorem State.zone_clearZones {l : List Nat} (hl : l.Nodup) (s : State) {z : Nat} (hz : z ∈ l) :
    (l.foldl (fun s z => s.putZone z ((s.zone z).cleared (s.tallyOf z))) s).zone z = (s.zone z).cleared (s.tallyOf z) := by
  have hrest : ∀ (l : List Nat) (s : State), z ∉ l →
      (l.foldl (fun s z => s.putZone z ((s.zone z).cleared (s.tallyOf z))) s).zone z = s.zone z := fun l => by
    induction l with
    | nil => exact fun s _ => rfl
    | cons y l ih =>
      intro s hnot
      rw [List.foldl_cons, ih _ fun h => hnot (List.mem_cons_of_mem y h), s.zone_putZone,
        if_neg fun heq : z = y => hnot (heq ▸ List.mem_cons_self)]
  induction l generalizing s with
  | nil => cases hz
  | cons y l ih =>
    obtain ⟨hy, hl⟩ := List.nodup_cons.mp hl
    rw [List.foldl_cons]
    by_cases hzy : z = y
    · subst hzy
      rw [hrest _ _ hy, s.putZone_self]
    · obtain ⟨hinUse, hshed, -⟩ := (s.zone y).cleared_fields (s.tallyOf y)
      rw [ih hl _ ((List.mem_cons.mp hz).resolve_left hzy), s.zone_putZone, if_neg hzy, s.tallyOf_putZone hinUse hshed]

/-- No bay in service moves and none is held: the tallies of the engine load are 0 (R17). -/
theorem State.tallyOf_still {s : State} (h : ∀ e ∈ s.bays, e.2.cls ≠ .retired → e.2.census = .dark ∧ e.2.hold = none) (z : Nat) :
    (s.tallyOf z).arriving = 0 ∧ (s.tallyOf z).leaving = 0 ∧ (s.tallyOf z).holds = 0 := by
  rw [State.tallyOf_eq]
  have hstill : ∀ e ∈ s.bays.filter (fun e => e.2.countsIn z), e.2.census = .dark ∧ e.2.hold = none := fun e he => by
    obtain ⟨hmem, hcounts⟩ := List.mem_filter.mp he
    exact h e hmem (of_decide_eq_true (Bool.and_eq_true_iff.mp hcounts).1)
  have hfold : ∀ (l : List (Nat × Bay)) (t : Tallies), (∀ e ∈ l, e.2.census = .dark ∧ e.2.hold = none) →
      t.arriving = 0 ∧ t.leaving = 0 ∧ t.holds = 0 →
      let u := l.foldl (fun t e => t.add e.2 (e.2.offeredIn (s.zone z))) t
      u.arriving = 0 ∧ u.leaving = 0 ∧ u.holds = 0 := fun l => by
    induction l with
    | nil => exact fun _ _ ht => ht
    | cons e l ih =>
      intro t hl ht
      obtain ⟨hdark, hnone⟩ := hl e List.mem_cons_self
      refine ih _ (fun x hx => hl x (List.mem_cons_of_mem e hx)) ?_
      simpa [Tallies.add, hdark, hnone, countIf] using ht
  exact hfold _ _ hstill ⟨rfl, rfl, rfl⟩

theorem blindCondition_goStale (l : List Slot) : blindCondition (l.map Slot.goStale) = !l.isEmpty := by
  simp [blindCondition, Slot.goStale]

theorem indexOf_goStale (l : List Slot) : indexOf (l.map Slot.goStale) = 0 := by
  have hfold : ∀ m, (l.map Slot.goStale).foldl (fun m g => if g.fresh then max m g.n else m) m = m := by
    induction l with
    | nil => exact fun m => rfl
    | cons g l ih => exact ih
  exact hfold 0

end Sys2Proof.Machine
end

section
/-! CERTIFICATE. CLEAR (R184). -/

namespace Sys2Proof.Machine

/-! ## The records after CLEAR -/

theorem Node.marked_cleared (n : Node) : n.cleared.marked = n.cleared := by
  unfold Node.cleared
  split
  · rename_i hoff
    exact Node.marked_off hoff
  · rename_i hon
    refine Node.marked_on fun hoff => hon ?_
    dsimp only at hoff
    cases hstate : n.state <;> rw [hstate] at hoff <;> cases hoff

theorem Node.cleared_off {n : Node} (h : n.state = .off) : n.cleared = n := if_pos h

theorem Node.cleared_on {n : Node} (h : n.state ≠ .off) : n.cleared =
    { service := n.service.cleared, state := n.state.cleared, misses := if n.state = .barred then n.misses else 0,
      toggle := .any, marker := .none, outputPending := true } := if_neg h

theorem NodeState.cleared_of_on {x : NodeState} (h : x ≠ .off) : x.cleared = if x = .silent then .live else x := by
  cases x with
  | off => exact absurd rfl h
  | live | silent | barred => rfl

/-- A pending set emptied leaves every other field (R178). -/
theorem Zone.emptied_kept (z : Zone) : z.emptied.inUse = z.inUse ∧ z.emptied.shed = z.shed ∧ z.emptied.tallies = z.tallies :=
  ⟨rfl, rfl, rfl⟩

/-- A zone record after CLEAR (R26, R108, R130). -/
theorem Zone.cleared_parts (z : Zone) (t : Tallies) :
    let y := z.cleared t
    y.inUse = z.inUse ∧ y.cfg = z.cfg ∧ y.hostShed = z.hostShed ∧ y.hostFloor = z.hostFloor ∧ y.S = z.S ∧ y.band = z.band
      ∧ y.I = 0 ∧ y.slots = z.slots.map Slot.goStale ∧ y.blind = (!z.slots.isEmpty)
      ∧ y.stages.map (·.node) = z.stages.map (·.node) ∧ y.tallies = t ∧ y.FiguresExact ∧ z.Stepped y := by
  intro y
  let w : Zone := { z with tallies := t }
  let r := Zone.reslotted w (z.slots.map Slot.goStale)
  have hy : y = r.demandChange false := z.reslotted_cleared t
  obtain ⟨hstages, hinUse, hcfg, hshed, hfloor, hS, hband, htallies⟩ := w.reslotted_kept (z.slots.map Slot.goStale)
  obtain ⟨hair, hcounts⟩ := Zone.demandChange_inputs r false
  have hI : r.I = 0 := (congrArg Zone.I (Zone.reslotted_eq w _)).trans (indexOf_goStale z.slots)
  have hblind : r.blind = !z.slots.isEmpty :=
    (congrArg Zone.blind (Zone.reslotted_eq w _)).trans (blindCondition_goStale z.slots)
  rw [hy]
  exact ⟨hair.inUse.trans hinUse, hair.cfg.trans hcfg, hair.hostShed.trans hshed, hair.hostFloor.trans hfloor, hair.S.trans hS,
    hair.band.trans hband, hair.I.trans hI, hair.slots.trans (w.reslotted_slots _), hair.blind.trans hblind,
    (r.demandChange_runs false).names.trans (congrArg _ hstages), hcounts.trans htallies, r.demandChange_exact false,
    (Zone.Stepped.of_stages (x := z) hcfg hstages).trans (r.demandChange_stepped false)⟩

/-- A light set reads bays, bands and the site record (R161 to R163). -/
theorem State.lightsOf_congr {s t : State} (hbay : ∀ b, t.bay b = s.bay b) (hband : ∀ z, (t.zone z).band = (s.zone z).band)
    (hsite : t.site = s.site) : t.lightsOf = s.lightsOf := by
  have hlit : t.litBays = s.litBays := by
    funext r n
    simp only [State.litBays, hbay]
  have hlight : t.bayLight = s.bayLight := by
    funext b
    simp only [State.bayLight, hband, hsite]
  funext r n timer
  simp only [State.lightsOf, State.aisleLevel, State.rowActive, State.countedBays, hlit, hlight, hband, hsite]
  rfl

theorem State.relit_allLights (s : State) : s.allLights.relit = s.relit := by
  rw [s.allLights_eq]
  rfl

theorem State.sign_allLights (s : State) (i : Nat) : s.allLights.sign i = s.sign i := by
  rw [s.allLights_eq]
  rfl

/-! ## The state after CLEAR, in its parts -/

/-- The zone records cleared after the bay and node records. -/
def State.zonesCleared (s : State) : State :=
  zoneNumbers.foldl (fun s z => s.putZone z ((s.zone z).cleared (s.tallyOf z))) s.forgotten

/-- The signs recomputed after that. -/
def State.signsCleared (s : State) : State := signNumbers.foldl State.recomputeSign s.zonesCleared

theorem State.signsCleared_zones (s : State) : s.signsCleared.zones = s.zonesCleared.zones :=
  foldl_field (·.zones) State.recomputeSign (fun s i => s.recomputeSign_zones i) _ _

/-- A state with its pending sets emptied (R178). -/
def State.emptied (s : State) : State :=
  { s with zones := Table.map Zone.powerOn Zone.emptied s.zones, sitePending := 0#16 }

theorem State.emptied_fields (s : State) : (∀ i, s.emptied.sign i = s.sign i) ∧ (∀ id, s.emptied.node id = s.node id)
    ∧ (∀ b, s.emptied.bay b = s.bay b) ∧ s.emptied.site = s.site := ⟨fun _ => rfl, fun _ => rfl, fun _ => rfl, rfl⟩

theorem State.emptied_clearFrame (s : State) : s.ClearFrame s.emptied :=
  ⟨rfl, rfl, rfl, rfl, rfl, rfl, rfl, rfl, fun _ => .refl _⟩

theorem State.zone_emptied {s : State} (hs : s.Legal) (z : Nat) : s.emptied.zone z = (s.zone z).emptied :=
  Table.get_map _ _ _ _ hs.zonesWf rfl _

theorem State.cleared_eq (s : State) : s.cleared = s.signsCleared.allLights.emptied := rfl

section
variable {s : State} (hs : s.Legal)

theorem State.forgotten_zone (z : Nat) : s.forgotten.zone z = s.zone z := rfl

theorem State.cleared_frame : s.forgotten.ClearFrame s.signsCleared.allLights :=
  ((State.ClearFrame.foldl (fun s z => (s.putZone_zoneFrame z _).clearFrame) zoneNumbers s.forgotten).trans
    (.foldl (fun s i => (s.recomputeSign_handOver i).clearFrame) signNumbers s.zonesCleared)).trans
      s.signsCleared.allLights_handOver.clearFrame

include hs

theorem State.bay_forgotten (b : Nat) : s.forgotten.bay b = (s.bay b).cleared := Table.get_map _ _ _ _ hs.baysWf rfl _

theorem State.node_forgotten (id : NodeId) : s.forgotten.node id = (s.node id).cleared := Table.get_map _ _ _ _ hs.nodesWf rfl _

theorem State.node_signsCleared (id : NodeId) : s.signsCleared.node id = (s.node id).cleared := by
  have hmarked : s.forgotten.AllMarked := fun j => by rw [State.node_forgotten hs, Node.marked_cleared]
  have hzones : s.forgotten.MarksOnly s.zonesCleared := .foldl (fun s z => s.putZone_marksOnly z _) zoneNumbers s.forgotten
  have hsigns : s.zonesCleared.MarksOnly s.signsCleared := .foldl State.recomputeSign_marksOnly signNumbers s.zonesCleared
  rw [hzones.trans hsigns hmarked, State.node_forgotten hs]

theorem State.zonesCleared_legal : s.zonesCleared.Legal :=
  (State.clearZones_keep (B := fun _ => False) (L := fun _ => False) (State.forgotten_keeps (B := fun _ => False)
    (L := fun _ => False) hs).legal fun _ hz => List.mem_range.mp hz).legal

theorem State.lightsCleared_legal : s.signsCleared.allLights.Legal :=
  State.Legal.recomputeLightsOf ((State.Keeps.foldl (E := ⟨[], fun _ => False, fun _ => False⟩) signNumbers (fun i hi v hv =>
    (v.recomputeSign_handOver i).keeps_of_zones hv (hv.recomputeSign (List.mem_range.mp hi)) (v.recomputeSign_zones i) _)
      (State.zonesCleared_legal hs)).legal) _

theorem State.zone_cleared {z : Nat} (hz : z < 32) :
    s.cleared.zone z = ((s.zone z).cleared (s.forgotten.tallyOf z)).emptied := by
  have hzones : s.signsCleared.allLights.zones = s.zonesCleared.zones := by
    rw [State.allLights_zones, s.signsCleared_zones]
  have hclear : s.zonesCleared.zone z = (s.forgotten.zone z).cleared (s.forgotten.tallyOf z) :=
    State.zone_clearZones List.nodup_range s.forgotten (List.mem_range.mpr hz)
  rw [s.cleared_eq, State.zone_emptied (State.lightsCleared_legal hs), State.zone_of_zones hzones, hclear, State.forgotten_zone]

end

end Sys2Proof.Machine
end

section
/-! CERTIFICATE. CLEAR (R184): the statement. -/

namespace Sys2Proof.Machine

/-- What CLEAR writes in each record (R184). -/
structure State.Cleared (s t : State) : Prop where
  frame : s.forgotten.ClearFrame t
  bay : ∀ b, t.bay b = (s.bay b).cleared
  node : ∀ id, t.node id = t.relit (s.node id).cleared
  zone : ∀ z, z < 32 → t.zone z = ((s.zone z).cleared (s.forgotten.tallyOf z)).emptied
  sitePending : t.sitePending = 0#16
  counted : ∀ i, i < 32 → t.sign i = t.counted (t.sign i)

theorem State.Cleared.of_same {s t u : State} (h : s.Cleared t)
    (hu : u = { t with buffer := u.buffer, miso := u.miso, out := u.out }) : s.Cleared u := by
  obtain ⟨⟨phase, ticks, ignoring, bays, routes, site, edit, lines, signs⟩, hbay, hnode, hzone, hsite, hcounted⟩ := h
  rw [hu]
  exact ⟨⟨phase, ticks, ignoring, bays, routes, site, edit, lines, signs⟩, hbay, hnode, hzone, hsite, hcounted⟩

/-- A state with its pending sets emptied computes the same light sets and the same counts (R178). -/
theorem State.emptied_reads {s : State} (hs : s.Legal) : s.emptied.relit = s.relit ∧ s.emptied.counted = s.counted := by
  obtain ⟨-, -, hbay, hsite⟩ := s.emptied_fields
  have hlights : s.emptied.lightsOf = s.lightsOf :=
    State.lightsOf_congr hbay (fun z => by rw [State.zone_emptied hs]; rfl) hsite
  have hcount : s.emptied.signCount = s.signCount := by
    funext zs f
    simp only [State.signCount, State.zone_emptied hs, Zone.emptied]
  refine ⟨funext fun n => ?_, funext fun g => ?_⟩
  · simp only [State.relit, hlights]
  · rw [State.counted, State.counted, hcount]

theorem State.cleared_cleared {s : State} (hs : s.Legal) : s.Cleared s.cleared := by
  have hlegal := State.lightsCleared_legal hs
  obtain ⟨hrelit, hcounted⟩ := State.emptied_reads hlegal
  obtain ⟨hsign, hnode, hbay, -⟩ := s.signsCleared.allLights.emptied_fields
  have hcount : s.signsCleared.allLights.counted = s.zonesCleared.counted :=
    funext fun g => State.counted_of_zones ((State.allLights_zones _).trans s.signsCleared_zones) g
  have hframe := s.cleared_frame.trans s.signsCleared.allLights.emptied_clearFrame
  refine ⟨hframe, fun b => ?_, fun id => ?_, fun z hz => State.zone_cleared hs hz, rfl, fun i hi => ?_⟩
  · exact (State.bay_of_bays (s := s.forgotten) hframe.bays b).trans (State.bay_forgotten hs b)
  · rw [s.cleared_eq, hnode, State.node_allLights, State.node_signsCleared hs, hrelit, State.relit_allLights]
  · rw [s.cleared_eq, hsign, hcounted, hcount, State.sign_allLights, State.signsCleared,
      State.sign_recomputeSigns signNumbers s.zonesCleared (List.mem_range.mpr hi),
      State.counted_counted]

/-! ## The records, by what the statement says of each -/

section
variable {s t : State} (hs : s.Legal) (h : s.Cleared t)
include h

/-- CLEAR moves no FAULTED stage, no band and no line, so that PURGE and FAULT stay (R127, R128, R184). -/
theorem State.Cleared.levels : t.purgeLevel = s.purgeLevel ∧ t.faultLevel = s.faultLevel := by
  have hparts : ∀ z, z < 32 → (t.zone z).inUse = (s.zone z).inUse ∧ (t.zone z).band = (s.zone z).band
      ∧ ((∃ g ∈ (t.zone z).stages, g.status = .faulted) ↔ ∃ g ∈ (s.zone z).stages, g.status = .faulted) := fun z hz => by
    obtain ⟨hinUse, -, -, -, -, hband, -, -, -, -, -, -, hstepped⟩ := (s.zone z).cleared_parts (s.forgotten.tallyOf z)
    rw [h.zone z hz]
    exact ⟨hinUse, hband, hstepped.faulted_iff⟩
  have hlines : ∀ l, t.line l = s.line l := fun l => by
    rw [State.line, State.line, h.frame.lines]
    rfl
  refine ⟨Bool.eq_iff_iff.mpr ?_, Bool.eq_iff_iff.mpr ?_⟩
  · rw [State.purgeLevel_iff, State.purgeLevel_iff]
    refine or_congr (exists_congr fun z => and_congr_right fun hz => ?_) (forall_congr' fun z => imp_congr_right fun hz => ?_)
    · rw [(hparts z hz).1, (hparts z hz).2.1]
    · rw [(hparts z hz).1]
  · rw [State.faultLevel_iff, State.faultLevel_iff]
    refine or_congr (exists_congr fun z => and_congr_right fun hz => (hparts z hz).2.2) ?_
    simp only [hlines]

/-- No member is pending after CLEAR (R178). -/
theorem State.Cleared.attn : t.attnLevel = false := by
  rw [State.attnLevel, h.sitePending, Bool.or_eq_false_iff, List.any_eq_false]
  refine ⟨fun z hz => ?_, rfl⟩
  rw [h.zone z (List.mem_range.mp hz)]
  exact Bool.noConfusion

theorem State.Cleared.tallyOf {z : Nat} (hz : z < 32) : t.tallyOf z = s.forgotten.tallyOf z := by
  obtain ⟨hinUse, hshed, -⟩ := (s.zone z).cleared_fields (s.forgotten.tallyOf z)
  obtain ⟨hkept, hkept', -⟩ := Zone.emptied_kept ((s.zone z).cleared (s.forgotten.tallyOf z))
  refine State.tallyOf_congr h.frame.bays ?_ ?_ <;> rw [h.zone z hz, State.forgotten_zone]
  · rw [hkept, hinUse]
  · rw [hkept', hshed]

theorem State.Cleared.talliesAgree : t.TalliesAgree := fun z hz => by
  obtain ⟨-, -, hkept⟩ := Zone.emptied_kept ((s.zone z).cleared (s.forgotten.tallyOf z))
  obtain ⟨-, -, htallies⟩ := (s.zone z).cleared_fields (s.forgotten.tallyOf z)
  rw [h.tallyOf hz, h.zone z hz, hkept, htallies]

theorem State.Cleared.signsExact : t.SignsExact := fun i hi => by
  rw [← t.signCount_eq]
  exact congrArg Sign.value (h.counted i hi)

/-- A bound node after CLEAR (R66, R90, R148, R170). -/
theorem State.Cleared.node_on {id : NodeId} (hon : (s.node id).state ≠ .off) :
    (t.node id).state = (if (s.node id).state = .silent then .live else (s.node id).state)
      ∧ (t.node id).misses = (if (s.node id).state = .barred then (s.node id).misses else 0)
      ∧ (t.node id).toggle = .any ∧ (t.node id).marker = .none ∧ (t.node id).outputPending = true
      ∧ (t.node id).service.kind = (s.node id).service.kind
      ∧ (∀ r n g, (s.node id).service = .row r n g → (t.node id).service = .row r n (t.lightsOf r n none))
      ∧ ∀ e x, (s.node id).service = .entry e x → (t.node id).service = .entry e .ready := by
  have hnode := h.node id
  rw [Node.cleared_on hon] at hnode
  have hstate := NodeState.cleared_of_on hon
  by_cases hrow : (s.node id).service.kind = some .row
  · obtain ⟨r, n, g, hservice⟩ : ∃ r n g, (s.node id).service = .row r n g := by
      cases hv : (s.node id).service <;> rw [hv] at hrow <;> cases hrow
      exact ⟨_, _, _, rfl⟩
    rw [t.relit_row (r := r) (k := n) (lights := { g with timer := none }) (by rw [hservice]; rfl)] at hnode
    rw [hnode, hservice]
    exact ⟨hstate, rfl, rfl, rfl, rfl, rfl, fun _ _ _ hv => by cases hv; rfl, fun _ _ hv => Service.noConfusion hv⟩
  · have hkind := (s.node id).service.cleared_kept.1
    rw [t.relit_other (fun hk => hrow (hkind.symm.trans hk))] at hnode
    rw [hnode]
    exact ⟨hstate, rfl, rfl, rfl, rfl, hkind, fun r n g hv => absurd (by rw [hv]; rfl) hrow, fun e x hv => by rw [hv]; rfl⟩

omit h in
include hs in
/-- No bay of a cleared part moves or is held (R26). -/
theorem State.forgotten_still (z : Nat) : (s.forgotten.tallyOf z).arriving = 0 ∧ (s.forgotten.tallyOf z).leaving = 0
    ∧ (s.forgotten.tallyOf z).holds = 0 := by
  refine State.tallyOf_still (fun e he hcls => ?_) z
  have hwf := (State.forgotten_keeps (B := fun _ => False) (L := fun _ => False) hs).legal.baysWf
  have hentry : s.forgotten.bay e.1 = e.2 := Table.get_of_mem _ _ _ hwf e.1 e.2 he
  rw [State.bay_forgotten hs] at hentry
  rw [← hentry, ((s.bay e.1).cleared_cases).2.1] at hcls
  rw [← hentry, Bay.cleared, if_neg hcls]
  exact ⟨rfl, rfl⟩

end

/-- Settles O59. -/
theorem clearForgetsTheLiveRecords : Obligations.ClearForgetsTheLiveRecords := by
  intro s h ho hs
  obtain ⟨t, ht, hdone, hsame, -, hexact⟩ := request_leaves (c := .clear) (u := s.cleared) (payload := [])
    (owner := fun s => (s.cleared, doneEmpty)) rfl h rfl
  have hclear : s.Cleared t := (State.cleared_cleared hs).of_same hsame
  obtain ⟨phase, ticks, ignoring, bays, routes, site, edit, lines, signs⟩ := hclear.frame
  refine ⟨t, ht, hdone, edit, hclear.sitePending, ?_, phase, ticks, ignoring, routes, site, lines, hclear.bay, fun id _ hoff => ?_,
    fun id _ hon => hclear.node_on hon, fun z hz => ?_, signs, hclear.talliesAgree, hclear.signsExact⟩
  · obtain ⟨hpurge, hfault⟩ := hclear.levels
    have hrdy : t.rdyLevel = true := by
      rw [State.rdyLevel, hdone]
      rfl
    rw [State.outputs_of_exact hexact, State.outputs_of_exact ho, hrdy, hclear.attn, hpurge, hfault]
  · rw [hclear.node, Node.cleared_off hoff, State.relit_other]
    rw [(hs.node id).1 hoff]
    exact nofun
  · obtain ⟨hinUse, hcfg, hshed, hfloor, hS, hband, hI, hslots, hblind, hnames, htallies, hfigures, -⟩ :=
      (s.zone z).cleared_parts (s.forgotten.tallyOf z)
    obtain ⟨harriving, hleaving, hholds⟩ := State.forgotten_still hs z
    rw [← htallies] at harriving hleaving hholds
    rw [hclear.zone z hz]
    exact ⟨hinUse, hcfg, hshed, hfloor, hS, hband, hI, hslots, hblind, rfl, hnames, harriving, hleaving, hholds, hfigures⟩

end Sys2Proof.Machine
end

section
/-! SUPPORT. The zones that take a node's event, and a fresh report of a LIVE or SILENT node taken up to its effect (R73, R78,
R79, R88). -/

namespace Sys2Proof.Machine

/-! ## The zones that a node serves (R88) -/

theorem distinct_nodup (l : List Nat) : (distinct l).Nodup := by
  induction l with
  | nil => exact List.nodup_nil
  | cons x l ih =>
    exact List.nodup_cons.mpr ⟨by simp, ih.filter _⟩

section
variable (s : State) (id : NodeId)

/-- The zones whose sets take the events of a node are those that it serves. -/
theorem State.mem_eventZones (z : Nat) : z ∈ s.eventZones id ↔ s.Serves id z := by
  unfold State.eventZones State.Serves
  cases (s.node id).service with
  | row r n lights =>
    show z ∈ distinct ((s.countedBays r n).map (·.zone)) ↔ _
    rw [mem_distinct, State.countedBays, State.litBays]
    constructor
    · intro hz
      obtain ⟨b, hb, hzone⟩ := List.mem_map.mp hz
      obtain ⟨hlit, hcls⟩ := List.mem_filter.mp hb
      obtain ⟨i, hi, rfl⟩ := List.mem_map.mp hlit
      exact ⟨i, List.mem_range.mp hi, of_decide_eq_true hcls, hzone⟩
    · rintro ⟨i, hi, hcls, hzone⟩
      exact List.mem_map.mpr ⟨_, List.mem_filter.mpr ⟨List.mem_map_of_mem (List.mem_range.mpr hi), decide_eq_true hcls⟩, hzone⟩
  | gas => simp [State.mem_zonesWhere, Zone.hasSlotOf]
  | fan => simp [State.mem_zonesWhere, Zone.hasStageOf]
  | none | sign | entry => simp

theorem State.eventZones_nodup : (s.eventZones id).Nodup := by
  unfold State.eventZones
  cases (s.node id).service with
  | row => exact distinct_nodup _
  | gas | fan => exact s.zonesWhere_nodup _
  | none | sign | entry => exact List.nodup_nil

/-- A node's event is raised in the zones that it serves (R88). -/
theorem State.zone_raiseNodeEvent (k : EventKind) (z : Nat) :
    (s.Serves id z → (s.raiseNodeEvent id k).zone z = (s.zone z).raise k)
      ∧ (¬ s.Serves id z → (s.raiseNodeEvent id k).zone z = s.zone z) := by
  simp only [← s.mem_eventZones id]
  have hnodup := s.eventZones_nodup id
  unfold State.raiseNodeEvent
  split
  · rename_i hnone
    rw [hnone]
    exact ⟨fun h => absurd h List.not_mem_nil, fun _ => rfl⟩
  · rename_i y ys hsome
    rw [hsome] at hnodup
    rw [hsome, State.zone_raiseZones k _ hnodup]
    exact ⟨fun h => if_pos h, fun h => if_neg h⟩

/-- A node that serves no zone raises its event in SITE (R88). -/
theorem State.sitePending_raiseNodeEvent (k : EventKind) :
    ((∀ z, ¬ s.Serves id z) → (s.raiseNodeEvent id k).sitePending = raised s.site.mask k s.sitePending)
      ∧ (¬ (∀ z, ¬ s.Serves id z) → (s.raiseNodeEvent id k).sitePending = s.sitePending) := by
  simp only [← s.mem_eventZones id]
  unfold State.raiseNodeEvent
  split
  · rename_i hnone
    simp only [hnone, List.not_mem_nil, not_false_eq_true, implies_true, not_true_eq_false, false_implies, and_true,
      true_implies]
    rfl
  · rename_i y ys hsome
    refine ⟨fun hno => absurd (hsome ▸ List.mem_cons_self) (hno y), fun _ => ?_⟩
    rw [State.raiseZones_eq]

end

/-! ## A valid reply taken (R73) -/

section
variable (s : State) (id : NodeId)

theorem State.serves_setNode {n : Node} (h : n.service = (s.node id).service) (z : Nat) :
    (s.setNode id n).Serves id z ↔ s.Serves id z := by
  unfold State.Serves
  rw [State.node_setNode_self, h]
  rfl

/-- NODE_BACK is raised where R88 says when the node was SILENT (R73). -/
theorem State.answeredVisit_events : (∀ z, s.HeardZone id z ((s.answeredVisit id).zone z))
    ∧ s.HeardSite id (s.answeredVisit id).sitePending := by
  have hserves := s.serves_setNode id (n := (s.node id).answered) rfl
  rw [State.answeredVisit_eq]
  split
  · rename_i hsilent
    have hzone := (s.setNode id (s.node id).answered).zone_raiseNodeEvent id .nodeBack
    obtain ⟨hsite, hother⟩ := (s.setNode id (s.node id).answered).sitePending_raiseNodeEvent id .nodeBack
    simp only [hserves] at hzone hsite hother
    exact ⟨fun z => ⟨fun ⟨_, hz⟩ => (hzone z).1 hz, fun hz => (hzone z).2 fun hs => hz ⟨hsilent, hs⟩⟩,
      fun ⟨_, hno⟩ => hsite hno, fun hz => hother fun hno => hz ⟨hsilent, hno⟩⟩
  · rename_i hlive
    exact ⟨fun z => ⟨fun hz => absurd hz.1 hlive, fun _ => rfl⟩, fun hz => absurd hz.1 hlive, fun _ => rfl⟩

end

/-! ## A fresh report up to its effect -/

/-- The state in which the report of node `id` is applied: the visit ended, the reply taken, the toggle turned and the marker
set (R73, R78, R79). -/
def State.heardWith (s : State) (l : Nat) (id : NodeId) (tog : Bool) (m : Marker) : State :=
  ((s.endVisit l).answeredVisit id).setNode id ((s.node id).taken tog m)

/-- What stands in `t` when the reply to the visit of line `l` has been taken from node `id` and its fresh report is about to
be applied (R73, R78). -/
structure State.HeardWith (s t : State) (l : Nat) (id : NodeId) (tog : Bool) (m : Marker) : Prop where
  ended : s.VisitEnded t l
  writes : t = { s with nodes := t.nodes, lines := t.lines, zones := t.zones, sitePending := t.sitePending }
  site : s.HeardSite id t.sitePending
  node : t.node id = (s.node id).taken tog m
  others : ∀ j : NodeId, j.key ≠ id.key → t.node j = s.node j
  zones : ∀ z, s.HeardZone id z (t.zone z)

theorem State.heardWith_report (s : State) (l : Nat) (id : NodeId) (tog : Bool) (m : Marker) :
    s.HeardWith (s.heardWith l id tog m) l id tog m := by
  generalize ht : s.heardWith l id tog m = t
  obtain ⟨hzones, hsite⟩ : (∀ z, s.HeardZone id z (t.zone z)) ∧ s.HeardSite id t.sitePending := by
    subst ht
    exact (s.endVisit l).answeredVisit_events id
  have hnode : t.node id = (s.node id).taken tog m := by
    subst ht
    exact State.node_setNode_self _ _ _
  have hwrites : t = { s with nodes := t.nodes, lines := t.lines, zones := t.zones, sitePending := t.sitePending } := by
    rw [← ht, State.heardWith, (s.endVisit l).answeredVisit_writes id]
    rfl
  have hline : ∀ i, t.line i = (s.endVisit l).line i := fun i => by
    rw [← ht, State.heardWith, State.setNode_line, (s.endVisit l).answeredVisit_writes id]
    rfl
  refine ⟨⟨?frame, ?line, ?lines⟩, hwrites, hsite, hnode, ?others, hzones⟩
  case frame =>
    refine ⟨?_, ?_, ?_, ?_, ?_, ?_, ?_, ?_, ?_, fun z => (State.HeardZone.inputs (hzones z)).air.settings, fun i => ?_⟩
    all_goals rw [hwrites]
    exact .refl _
  case line => rw [hline, State.endVisit, State.line_setLine_self]
  case lines =>
    intro i hi
    rw [hline, State.endVisit, State.line_setLine, if_neg hi]
  case others =>
    intro j hj
    rw [← ht, State.heardWith, State.node_setNode, if_neg hj, State.answeredVisit_node, State.node_setNode, if_neg hj]
    rfl

theorem Node.answered_live {n : Node} (h : n.state = .live ∨ n.state = .silent) : n.answered.state = .live := by
  rcases h with h | h <;> simp [Node.answered, h]

/-- The marker set when a fresh report of a LIVE node is taken (R79). -/
def Node.heardMarker (n : Node) (body : Report) : Marker := if n.answersBusy body then .busy else .none

/-- A fresh report of a node that was LIVE or SILENT is applied to the heard state (R73, R78, R79). -/
theorem State.judgeReport_heardWith (s : State) (l : Nat) (id : NodeId) (tog : Bool) (body : Report)
    (hstate : (s.node id).state = .live ∨ (s.node id).state = .silent) (hfresh : (s.node id).toggle.fresh tog = true) :
    ((s.endVisit l).answeredVisit id).judgeReport id tog body
      = (s.heardWith l id tog ((s.node id).heardMarker body)).applyReport id body := by
  have hnode : ((s.endVisit l).answeredVisit id).node id = (s.node id).answered := by
    rw [State.answeredVisit_node, State.node_setNode_self]
    rfl
  have hlive := Node.answered_live hstate
  have hmarker : (s.node id).answered.markerFor body = (s.node id).heardMarker body := by
    rw [Node.markerFor, if_neg (by simp [hlive])]
    rfl
  rw [State.judgeReport_applied _ _ _ _ (hnode ▸ hfresh) (by simp [hnode, hlive]), hnode, hmarker]
  rfl

end Sys2Proof.Machine
end

section
/-! CERTIFICATE. A fresh entry report (R134 to R137, R144). -/

namespace Sys2Proof.Machine

/-! ## The bay held for a ticket and entrance (R135) -/

/-- Whether a bay carries a hold with this ticket and entrance. -/
def Bay.heldFor (b : Bay) (ticket e : Nat) : Prop := ∃ h, b.hold = some h ∧ h.ticket = ticket ∧ h.entrance = e

/-- The same as a check of the bay table. -/
def Bay.holdsFor (b : Bay) (ticket e : Nat) : Bool :=
  match b.hold with
  | some h => decide (h.ticket = ticket) && decide (h.entrance = e)
  | none => false

theorem Bay.holdsFor_iff {b : Bay} {ticket e : Nat} : b.holdsFor ticket e = true ↔ b.heldFor ticket e := by
  unfold Bay.holdsFor Bay.heldFor
  cases b.hold <;> simp

theorem State.heldBay_find (s : State) (ticket e : Nat) :
    s.heldBay ticket e = (Table.keys s.bays).find? fun b => (s.bay b).holdsFor ticket e := rfl

section
variable {s : State} {ticket e : Nat}

theorem State.heldBay_eq_none (h : ∀ b, ¬ (s.bay b).heldFor ticket e) : s.heldBay ticket e = none := by
  rw [State.heldBay_find]
  exact List.find?_eq_none.mpr fun b _ hb => h b (Bay.holdsFor_iff.mp hb)

/-- The lowest-numbered bay with the hold (R135). -/
theorem State.heldBay_eq_some (hs : s.Legal) {b : Nat} (hb : (s.bay b).heldFor ticket e)
    (hleast : ∀ i, i < b → ¬ (s.bay i).heldFor ticket e) : s.heldBay ticket e = some b := by
  have hlisted : b ∈ Table.keys s.bays := by
    rcases Table.get_cases Bay.powerOn s.bays b with hd | hm
    · obtain ⟨x, hx, -⟩ := hb
      rw [State.bay, hd] at hx
      cases hx
    · exact List.mem_map_of_mem hm
  have hsorted : (Table.keys s.bays).Pairwise (· < ·) :=
    List.pairwise_map.mpr ((Table.wf_iff Bay.powerOn Config.bayCount s.bays).mp hs.baysWf).1
  rw [State.heldBay_find]
  cases hfind : (Table.keys s.bays).find? fun b => (s.bay b).holdsFor ticket e with
  | none => exact absurd (Bay.holdsFor_iff.mpr hb) (List.find?_eq_none.mp hfind b hlisted)
  | some i =>
    have hlow : ¬ i < b := fun hlt => hleast i hlt (Bay.holdsFor_iff.mp (List.find?_some (p := fun b => (s.bay b).holdsFor ticket e) hfind))
    have hhigh : ¬ b < i := fun hlt =>
      Bool.noConfusion ((find?_least hsorted hfind b hlisted hlt).symm.trans (Bay.holdsFor_iff.mpr hb))
    exact congrArg some (by omega)

end

/-! ## The answer given (R135) -/

section
variable (s : State) (id : NodeId) (e : Nat)

theorem State.node_setAnswer (a : Answer) : (s.setAnswer id e a).node id
    = { s.node id with service := .entry e a, outputPending := true } := State.node_setNode_self _ _ _

theorem State.node_setAnswer_other (a : Answer) {j : NodeId} (hj : j.key ≠ id.key) : (s.setAnswer id e a).node j = s.node j := by
  rw [State.setAnswer, State.node_setNode, if_neg hj]

/-- What is read after an answer is given. -/
theorem State.setAnswer_reads (a : Answer) :
    (∀ b, (s.setAnswer id e a).withOutputs.bay b = s.bay b) ∧ (∀ z, (s.setAnswer id e a).withOutputs.zone z = s.zone z)
      ∧ (s.setAnswer id e a).withOutputs.node id = { s.node id with service := .entry e a, outputPending := true } :=
  ⟨fun _ => rfl, fun _ => rfl, s.node_setAnswer id e a⟩

variable {s e}

theorem State.takeRequest_held {ticket b : Nat} (c : BayClass) (h : s.heldBay ticket e = some b) :
    s.takeRequest id e c ticket = s.setAnswer id e (.offer ticket b (s.bay b).zone) := by
  rw [State.takeRequest, h]

theorem State.takeRequest_full {ticket : Nat} {c : BayClass} (h : s.heldBay ticket e = none) (hsel : s.selection e c = none) :
    s.takeRequest id e c ticket = s.setAnswer id e (.full ticket) := by
  rw [State.takeRequest, h]
  simp only [hsel]

/-- A full hold on the bay that the selection chooses (R11, R144). -/
theorem State.takeRequest_selected {ticket b : Nat} {c : BayClass} (h : s.heldBay ticket e = none)
    (hsel : s.selection e c = some b) : s.takeRequest id e c ticket
      = (s.censusChange [(b, { s.bay b with hold := some ⟨ticket, e, s.site.holdTicks⟩ })]).setAnswer id e
          (.offer ticket b (s.bay b).zone) := by
  have hallowed : s.holdAllowed b e = true := by simp [State.holdAllowed, State.offered_of_selection hsel]
  have hplaced : s.placeHold b ticket e
      = some (s.censusChange [(b, { s.bay b with hold := some ⟨ticket, e, s.site.holdTicks⟩ })]) := if_pos hallowed
  rw [State.takeRequest, h]
  simp only [hsel, hplaced]

variable {a : Answer} {ack : Bool} {req : Option (BayClass × Nat)}

theorem Answer.busyFor_iff : a.busyFor ack req = true ↔ a ≠ .ready ∧ ack = false ∧ req ≠ none := by
  cases req <;> simp [Answer.busyFor]

/-- A report that is answered busy, or has neither effect, leaves every record (R134, R136). -/
theorem State.entryReport_rest (h : ¬ (a = .ready ∨ ack = true) ∨ (req = none ∧ (a = .ready ∨ ack = false))) :
    s.entryReport id e a ack req = s := by
  by_cases hbusy : a.busyFor ack req = true
  · exact if_pos hbusy
  · refine (if_neg hbusy).trans ?_
    cases req with
    | none =>
      refine if_neg fun ⟨hopen, hack⟩ => ?_
      rcases h with h | ⟨-, h | h⟩
      · exact h (.inr hack)
      · exact hopen h
      · exact Bool.noConfusion (hack.symm.trans h)
    | some p =>
      rcases h with h | ⟨h, -⟩
      · obtain ⟨hopen, hack⟩ := not_or.mp h
        exact absurd (Answer.busyFor_iff.mpr ⟨hopen, by simpa using hack, Option.some_ne_none p⟩) hbusy
      · cases h

theorem State.entryReport_closed (ha : a ≠ .ready) : s.entryReport id e a true none = s.setAnswer id e .ready := by
  have hbusy : ¬ a.busyFor true none = true := fun h => (Answer.busyFor_iff.mp h).2.2 rfl
  exact (if_neg hbusy).trans (if_pos ⟨ha, rfl⟩)

theorem State.entryReport_taken {c : BayClass} {ticket : Nat} (h : a = .ready ∨ ack = true) :
    s.entryReport id e a ack (some (c, ticket)) = s.takeRequest id e c ticket := by
  refine if_neg fun hbusy => ?_
  obtain ⟨hopen, hack, -⟩ := Answer.busyFor_iff.mp hbusy
  exact h.elim hopen fun htrue => Bool.noConfusion (htrue.symm.trans hack)

/-- An entry report leaves the records, answers, or holds a bay and answers (R134 to R137). -/
theorem State.entryReport_cases (P : State → Prop) (rest : P s) (answer : ∀ x, P (s.setAnswer id e x))
    (hold : ∀ b y x, P ((s.censusChange [(b, y)]).setAnswer id e x)) : P (s.entryReport id e a ack req) := by
  by_cases hfree : (a = .ready ∨ ack = true) ∧ ¬ (req = none ∧ (a = .ready ∨ ack = false))
  · cases req with
    | none =>
      obtain ⟨hopen, hack⟩ := not_or.mp fun h => hfree.2 ⟨rfl, h⟩
      have htrue : ack = true := by simpa using hack
      rw [htrue, State.entryReport_closed id hopen]
      exact answer _
    | some p =>
      rw [State.entryReport_taken id hfree.1]
      cases hheld : s.heldBay p.2 e with
      | some b =>
        rw [State.takeRequest_held id p.1 hheld]
        exact answer _
      | none =>
        cases hsel : s.selection e p.1 with
        | none =>
          rw [State.takeRequest_full id hheld hsel]
          exact answer _
        | some b =>
          rw [State.takeRequest_selected id hheld hsel]
          exact hold _ _ _
  · rw [State.entryReport_rest id (by
      rcases Classical.not_and_iff_not_or_not.mp hfree with h | h
      · exact .inl h
      · exact .inr (Classical.not_not.mp h))]
    exact rest

/-- What an entry report leaves (R134 to R137). -/
theorem State.entryReport_effects : s.EffectFrame (s.entryReport id e a ack req)
    ∧ ∀ j : NodeId, j.key ≠ id.key → (s.node j).SameLink ((s.entryReport id e a ack req).node j) := by
  refine State.entryReport_cases id
    (fun t => s.EffectFrame t ∧ ∀ j : NodeId, j.key ≠ id.key → (s.node j).SameLink (t.node j)) ⟨.refl s, fun _ _ => .refl _⟩
    (fun x => ⟨s.setNode_effects id _, fun j hj => ?_⟩)
    fun b y x => ⟨(s.censusChange_effects _).trans (State.setNode_effects _ id _), fun j hj => ?_⟩
  · rw [s.node_setAnswer_other id e x hj]
    exact .refl _
  · rw [State.node_setAnswer_other _ id e x hj]
    exact (s.censusChange_frame _).1.nodes j

end

/-! ## The entry node heard (R73, R88) -/

section
variable {s t : State} {l e : Nat} {id : NodeId} {a : Answer} {tog : Bool} {m : Marker}

/-- An entry node serves no zone, so that its return is raised in SITE and writes no zone record (R88). -/
theorem State.heardWith_entry (h : (s.node id).service = .entry e a) :
    let u := s.heardWith l id tog m
    u = { s with nodes := u.nodes, lines := u.lines, sitePending := u.sitePending }
      ∧ ((s.node id).state = .live → u.sitePending = s.sitePending)
      ∧ ((s.node id).state = .silent → u.sitePending = raised s.site.mask .nodeBack s.sitePending) := by
  intro u
  have hserves : ∀ z, ¬ s.Serves id z := fun z hz => by
    unfold State.Serves at hz
    rw [h] at hz
    exact hz
  have hheard := s.heardWith_report l id tog m
  obtain ⟨hraised, hkept⟩ := hheard.site
  have hnone : ∀ v : State, (v.node id).service = .entry e a → (v.raiseNodeEvent id .nodeBack).zones = v.zones := fun v hv => by
    simp only [State.raiseNodeEvent, State.eventZones, hv]
    rfl
  have hzones : u.zones = s.zones := by
    show ((s.endVisit l).answeredVisit id).zones = s.zones
    rw [State.answeredVisit_eq]
    split
    · refine hnone _ ?_
      rw [State.node_setNode_self]
      exact h
    · rfl
  refine ⟨?_, fun hlive => hkept fun hs => ?_, fun hsilent => hraised ⟨hsilent, hserves⟩⟩
  · have hwrites := hheard.writes
    rwa [hzones] at hwrites
  · exact NodeState.noConfusion (hlive.symm.trans hs.1)

/-- What a state that differs in node records, lines, the pending set of SITE and the pins has in common with `s`. -/
theorem State.entry_reads (hu : t = { s with nodes := t.nodes, lines := t.lines, sitePending := t.sitePending }) :
    (∀ b, t.bay b = s.bay b) ∧ (∀ z, t.zone z = s.zone z) ∧ t.site = s.site ∧ t.selection = s.selection
      ∧ t.heldBay = s.heldBay := by
  rw [hu]
  exact ⟨fun _ => rfl, fun _ => rfl, rfl, rfl, rfl⟩

end

/-- Records of one link, with a binding and the mark written, are one record. -/
theorem Node.SameLink.rebound {m n : Node} (h : m.SameLink n) {v : Service} :
    ({ n with service := v, outputPending := true } : Node) = { m with service := v, outputPending := true } := by
  obtain ⟨hstate, hmisses, htoggle, hmarker, -⟩ := h
  rw [hstate, hmisses, htoggle, hmarker]

theorem NodeState.on_of_answering {x : NodeState} (h : x = .live ∨ x = .silent) : x ≠ .off := by
  rintro rfl
  exact h.elim nofun nofun

theorem Node.heardMarker_entry {n : Node} {e : Nat} {a : Answer} {ack : Bool} {req : Option (BayClass × Nat)}
    (h : n.service = .entry e a) :
    n.heardMarker (.entry ack req) = if a ≠ .ready ∧ ack = false ∧ req ≠ none then .busy else .none := by
  have hanswer : n.answersBusy (.entry ack req) = a.busyFor ack req := by
    unfold Node.answersBusy
    rw [h]
    rfl
  simp only [Node.heardMarker, hanswer, Answer.busyFor_iff]

/-- Node records written in a state that differs in node records, lines and the pending set of SITE. -/
theorem State.unmoved_withOutputs {s u : State} {nodes : Table Node} {lines : Table Line} {e : EventSet}
    (hu : u = { s with nodes := nodes, lines := lines, sitePending := e }) (nodes' : Table Node) :
    let t := ({ u with nodes := nodes' } : State).withOutputs
    t = { s with nodes := t.nodes, lines := t.lines, sitePending := t.sitePending, out := t.out } := by
  subst hu
  rfl

/-- Settles O50. -/
theorem entryReportIsAnswered : Obligations.EntryReportIsAnswered := by
  intro s l e v a chars tog ack req hs ho hagree hw hp hstate hfresh hservice id m n answered free unmoved
  have hid : id.Exists := hw.nodeExists hs
  have hmarker : (s.node id).heardMarker (.entry ack req) = m := Node.heardMarker_entry hservice
  let u := s.heardWith l id tog m
  have hheard := s.heardWith_report l id tog m
  obtain ⟨hwrites, hlive, hsilent⟩ := State.heardWith_entry (id := id) (l := l) (tog := tog) (m := m) hservice
  obtain ⟨hbay, hzone, hsite, hselection, hheldBay⟩ := State.entry_reads hwrites
  have hnode : u.node id = n := hheard.node
  have hreport : u.applyReport id (.entry ack req) = u.entryReport id e a ack req := by
    have hanswer : (u.node id).service.answer = some (e, a) := by
      rw [hnode]
      exact Service.answer_eq_some.mpr hservice
    simp only [State.applyReport, hanswer]
  have hexec : exec (.validReply l chars) s = .next (u.entryReport id e a ack req).withOutputs := by
    rw [exec_validReply_report hw hp (NodeState.on_of_answering hstate), State.judgeReport_heardWith s l id tog _ hstate hfresh,
      hmarker]
    exact congrArg (fun v : State => Host.Outcome.next v.withOutputs) hreport
  obtain ⟨heffects, hothers⟩ := State.entryReport_effects (s := u) id (e := e) (a := a) (ack := ack) (req := req)
  have hagain : (u.entryReport id e a ack req).withOutputs.TalliesAgree :=
    State.talliesBut_nil _ |>.mp ((exec_keeps hs (c := .validReply l chars) (decide_eq_true hw.line) hexec).tallies
      ((State.talliesBut_nil s).mpr hagree))
  have hended : s.VisitEnded (u.entryReport id e a ack req).withOutputs l := by
    have hlines : (u.entryReport id e a ack req).line = u.line := funext fun i => by rw [State.line, State.line, heffects.lines]
    refine ⟨{ hheard.ended.frame.trans heffects.field with }, ?_, fun i hi => ?_⟩
    · exact (congrFun hlines l).trans hheard.ended.line
    · exact (congrFun hlines i).trans (hheard.ended.lines i hi)
  have hanswer : ∀ x, u.entryReport id e a ack req = u.setAnswer id e x →
      answered (u.entryReport id e a ack req).withOutputs x ∧ unmoved (u.entryReport id e a ack req).withOutputs := fun x hx => by
    rw [hx]
    refine ⟨?_, State.unmoved_withOutputs hwrites (u.setAnswer id e x).nodes⟩
    show (u.setAnswer id e x).node id = _
    rw [State.node_setAnswer, hnode]
  refine ⟨_, hexec, hended, State.withOutputs_exact _, fun h => heffects.sitePending.trans (hlive h),
    fun h => heffects.sitePending.trans (hsilent h), fun j hj hne => ?others, fun hrest => ?rest, fun hreq hopen hack => ?closed,
    fun c ticket hreq hfree => ⟨fun b hb hleast => ?held, fun hno hsel => ?full, fun b hno hsel => ?selected⟩⟩
  case others =>
    have hkey := NodeId.key_ne hj hid hne
    have hsame := hheard.others j hkey
    exact hsame ▸ hothers j hkey
  case rest =>
    rw [State.entryReport_rest id hrest]
    exact ⟨hnode, State.unmoved_withOutputs hwrites u.nodes⟩
  case closed =>
    refine hanswer _ ?_
    rw [hreq, hack, State.entryReport_closed id hopen]
  case held =>
    refine hanswer _ ?_
    have hfound : u.heldBay ticket e = some b := by
      rw [hheldBay]
      exact State.heldBay_eq_some hs hb hleast
    rw [hreq, State.entryReport_taken id hfree, State.takeRequest_held id c hfound, hbay]
  case full =>
    refine hanswer _ ?_
    have hnone : u.heldBay ticket e = none := by
      rw [hheldBay]
      exact State.heldBay_eq_none hno
    rw [hreq, State.entryReport_taken id hfree, State.takeRequest_full id hnone (hselection ▸ hsel)]
  case selected =>
    have hnone : u.heldBay ticket e = none := by
      rw [hheldBay]
      exact State.heldBay_eq_none hno
    have hplaced : u.entryReport id e a ack req
        = (u.censusChange [(b, { s.bay b with hold := some ⟨ticket, e, s.site.holdTicks⟩ })]).setAnswer id e
          (.offer ticket b (s.bay b).zone) := by
      rw [hreq, State.entryReport_taken id hfree, State.takeRequest_selected id hnone (hselection ▸ hsel), hbay, hsite]
    have hchange := u.oneBay_change b { s.bay b with hold := some ⟨ticket, e, s.site.holdTicks⟩ }
    rw [hplaced] at hagain ⊢
    generalize hc : u.censusChange [(b, { s.bay b with hold := some ⟨ticket, e, s.site.holdTicks⟩ })] = c' at hchange hagain ⊢
    obtain ⟨hbays, hzones, hanswered⟩ := c'.setAnswer_reads id e (.offer ticket b (s.bay b).zone)
    refine ⟨?_, (hbays b).trans hchange.bay, fun i hi => (hbays i).trans ((hchange.bays i hi).trans (hbay i)), fun z hz => ?_,
      hagain⟩
    · exact hanswered.trans (by rw [(hchange.frame.nodes id).rebound, hnode])
    · have hold : z ≠ (u.bay b).zone := by
        rw [hbay]
        exact hz
      exact (hzones z).trans ((hchange.zones z hold hz).trans (hzone z))

end Sys2Proof.Machine
end

section
/-! SUPPORT. A row report applied: its two hand-overs, in either order (R4, R5, R85, R164). -/

namespace Sys2Proof.Machine

/-! ## What a hand-over keeps of a node's marks and timers -/

/-- Node record `n` has the mark that `m` has, and its row with the aisle timer of `m` (R165). -/
structure Node.Refreshed (m n : Node) : Prop where
  mark : m.outputPending = true → n.outputPending = true
  row : ∀ r k g, m.service = .row r k g → ∃ g', n.service = .row r k g' ∧ g'.timer = g.timer

theorem Node.Refreshed.refl (n : Node) : n.Refreshed n := ⟨id, fun _ _ g h => ⟨g, h, rfl⟩⟩

theorem Node.Refreshed.trans {m n o : Node} (h : m.Refreshed n) (k : n.Refreshed o) : m.Refreshed o :=
  ⟨k.mark ∘ h.mark, fun r c g hg => by
    obtain ⟨g', hg', htimer⟩ := h.row r c g hg
    obtain ⟨g'', hg'', htimer'⟩ := k.row r c g' hg'
    exact ⟨g'', hg'', htimer'.trans htimer⟩⟩

theorem Node.marked_refreshed (n : Node) : n.Refreshed n.marked := by
  unfold Node.marked
  split
  · exact .refl n
  · exact ⟨fun _ => rfl, fun _ _ g h => ⟨g, h, rfl⟩⟩

theorem State.relit_refreshed (s : State) (n : Node) : n.Refreshed (s.relit n) := by
  by_cases hrow : n.service.kind = some .row
  · obtain ⟨r, k, g, hservice⟩ : ∃ r k g, n.service = .row r k g := by
      cases hv : n.service <;> rw [hv] at hrow <;> cases hrow
      exact ⟨_, _, _, rfl⟩
    rw [s.relit_row hservice]
    refine ⟨fun h => by simp [h], fun r' k' g' h => ?_⟩
    cases hservice.symm.trans h
    exact ⟨_, rfl, rfl⟩
  · rw [s.relit_other hrow]
    exact .refl n

/-- Every node record of `t` is refreshed from its record in `s`. -/
def State.Refreshes (s t : State) : Prop := ∀ id, (s.node id).Refreshed (t.node id)

theorem State.Refreshes.refl (s : State) : s.Refreshes s := fun id => .refl (s.node id)

theorem State.Refreshes.trans {s t u : State} (h : s.Refreshes t) (k : t.Refreshes u) : s.Refreshes u :=
  fun id => (h id).trans (k id)

theorem State.Refreshes.foldl {α : Type} {f : State → α → State} (hf : ∀ (s : State) a, s.Refreshes (f s a)) (l : List α)
    (s : State) : s.Refreshes (l.foldl f s) := by
  induction l generalizing s with
  | nil => exact .refl s
  | cons a l ih => exact (hf s a).trans (ih _)

section
variable (s : State)

theorem State.markOutput_refreshes (id : NodeId) : s.Refreshes (s.markOutput id) := fun j => by
  rw [s.node_markOutput]
  split
  · exact (s.node j).marked_refreshed
  · exact .refl _

theorem State.recomputeLights_refreshes (k : Nat) : s.Refreshes (s.recomputeLights k) := fun j => by
  rw [s.node_recomputeLights]
  split
  · exact s.relit_refreshed _
  · exact .refl _

theorem State.putZone_refreshes (z : Nat) (x : Zone) : s.Refreshes (s.putZone z x) :=
  .trans (t := s.setZone z x) (.refl s) (.foldl State.markOutput_refreshes _ _)

theorem State.recomputeSign_refreshes (i : Nat) : s.Refreshes (s.recomputeSign i) := by
  unfold State.recomputeSign
  dsimp only
  split
  · exact .refl s
  · split
    · refine .trans (t := s.setSign i { s.sign i with value := s.signCount (s.sign i).zones (s.sign i).filter })
        (.refl s) ?_
      unfold State.markSignNode
      split
      · exact State.markOutput_refreshes _ _
      · exact .refl _
    · exact .refl s

theorem writeBays_node (changes : List (Nat × Bay)) (id : NodeId) : (writeBays s changes).node id = s.node id :=
  State.node_of_nodes (foldl_field (·.nodes) (fun s (e : Nat × Bay) => s.setBay e.1 e.2) (fun _ _ => rfl) changes s) id

/-- A change of the bay table sets marks and recomputes light sets, and takes no mark and no timer (R18). -/
theorem State.censusChange_refreshes (changes : List (Nat × Bay)) : s.Refreshes (s.censusChange changes) := by
  have hwritten : s.Refreshes (writeBays s changes) := fun id => by
    rw [writeBays_node]
    exact .refl _
  unfold State.censusChange
  dsimp only
  exact ((hwritten.trans (.foldl (fun s z => s.putZone_refreshes z _) _ _)).trans (.foldl State.recomputeSign_refreshes _ _)).trans
    (.foldl State.recomputeLights_refreshes _ _)

end

/-! ## The bays that a report moves (R4, R5) -/

/-- A row report moves the bays in service below the bay count by the table of R5, and writes no other bay. -/
theorem State.bay_censusReport (s : State) {r n : Nat} (hn : n ≤ 16) (p : BitVec 16) (b : Nat) :
    (s.censusReport r n p).bay b = if b / 16 = r ∧ b % 16 < n ∧ (s.bay b).cls ≠ .retired
      then (s.bay b).reported s.site (p.getLsbD (b % 16)) else s.bay b := by
  let moved := (List.range n).filter fun i => decide ((s.bay (16 * r + i)).cls ≠ .retired)
      && decide ((s.bay (16 * r + i)).reported s.site (p.getLsbD i) ≠ s.bay (16 * r + i))
  have hkeys : (s.reportedChanges r n p).map Prod.fst = moved.map fun i => 16 * r + i := by
    simp only [State.reportedChanges, List.map_map]
    rfl
  have hnodup : ((s.reportedChanges r n p).map Prod.fst).Nodup :=
    hkeys ▸ nodup_map (fun _ _ h => Nat.add_left_cancel h) (List.nodup_range.filter _)
  have hmem : ∀ i, i ∈ moved ↔ i < n ∧ (s.bay (16 * r + i)).cls ≠ .retired
      ∧ (s.bay (16 * r + i)).reported s.site (p.getLsbD i) ≠ s.bay (16 * r + i) := fun i => by
    simp [moved]
  by_cases hb : b ∈ (s.reportedChanges r n p).map Prod.fst
  · obtain ⟨i, hi, rfl⟩ := List.mem_map.mp (hkeys ▸ hb)
    obtain ⟨hlt, hcls, -⟩ := (hmem i).mp hi
    have hdiv : (16 * r + i) / 16 = r ∧ (16 * r + i) % 16 = i := by omega
    have hlisted : (16 * r + i, (s.bay (16 * r + i)).reported s.site (p.getLsbD i)) ∈ s.reportedChanges r n p :=
      List.mem_map.mpr ⟨i, hi, rfl⟩
    rw [hdiv.2, if_pos ⟨hdiv.1, hlt, hcls⟩]
    exact State.bay_censusChange_of_mem hnodup hlisted
  · refine (State.bay_censusChange_of_not_mem hb).trans ?_
    split
    · rename_i hin
      obtain ⟨hrow, hlt, hcls⟩ := hin
      have hplace : 16 * r + b % 16 = b := by omega
      refine Classical.byContradiction fun hmoves => ?_
      refine hb (hkeys ▸ List.mem_map.mpr ⟨b % 16, (hmem _).mpr ⟨hlt, ?_, ?_⟩, hplace⟩)
      · rw [hplace]
        exact hcls
      · rw [hplace]
        exact fun h => hmoves h.symm
    · rfl

/-! ## The aisle timer (R164) -/

theorem State.setAisleTimer_eq (s : State) (id : NodeId) (t : Option Nat) :
    s.setAisleTimer id t = { s with nodes := (s.setAisleTimer id t).nodes } := by
  unfold State.setAisleTimer
  rw [State.recomputeLights_eq]
  rfl

/-- The aisle timer of a row node set: the row keeps its mark, and no other node is written (R164, R165). -/
theorem State.node_setAisleTimer (s : State) {id : NodeId} {r n : Nat} {g : LightSet} (h : (s.node id).service = .row r n g)
    (t : Option Nat) : ((s.node id).outputPending = true → ((s.setAisleTimer id t).node id).outputPending = true)
      ∧ (∃ g', ((s.setAisleTimer id t).node id).service = .row r n g' ∧ g'.timer = t)
      ∧ ∀ j : NodeId, j.key ≠ id.key → (s.setAisleTimer id t).node j = s.node j := by
  have hself : (s.setAisleTimer id t).node id = s.relit { s.node id with service := .row r n { g with timer := t } } := by
    unfold State.setAisleTimer
    rw [State.node_recomputeLights, if_pos rfl, State.node_setNode_self, h]
    rfl
  have hlit := s.relit_refreshed { s.node id with service := .row r n { g with timer := t } }
  refine ⟨fun hm => hself ▸ hlit.mark hm, ?_, fun j hj => ?_⟩
  · rw [hself]
    exact hlit.row r n _ rfl
  · unfold State.setAisleTimer
    rw [State.node_recomputeLights, if_neg hj, State.node_setNode, if_neg hj]

end Sys2Proof.Machine
end

section
/-! CERTIFICATE. A fresh row report (R4, R5, R73, R88, R164). -/

namespace Sys2Proof.Machine

/-! ## The two hand-overs of a row report, in either order (R85) -/

/-- What a row report of node `id`, row `r` with bay count `n`, makes of the records (R4, R5, R164). -/
structure State.RowMoved (s t : State) (id : NodeId) (r n : Nat) (g : LightSet) (p : BitVec 16) (motion : Bool) : Prop where
  effects : s.EffectFrame t
  links : ∀ j, (s.node j).SameLink (t.node j)
  mark : (s.node id).outputPending = true → (t.node id).outputPending = true
  row : ∃ g', (t.node id).service = .row r n g' ∧ g'.timer = if motion = true then some s.site.aisleTicks else g.timer
  bays : ∀ b, t.bay b = if b / 16 = r ∧ b % 16 < n ∧ (s.bay b).cls ≠ .retired
    then (s.bay b).reported s.site (p.getLsbD (b % 16)) else s.bay b

/-- A free choice counted is no part of a frame (log entry 10). -/
theorem State.choices_effects (s : State) (c : Nat) : s.EffectFrame { s with choices := c } :=
  ⟨⟨rfl, rfl, rfl, rfl, rfl, rfl, rfl, rfl, rfl, fun _ => ⟨rfl, rfl, rfl, rfl⟩, fun _ => .refl _⟩, rfl, rfl,
    fun _ => ⟨rfl, rfl⟩, fun _ _ _ => rfl⟩

/-- A permutation of two items is either order of them. -/
theorem eq_of_perm_pair {α : Type} {a b : α} {l : List α} (h : l.Perm [a, b]) : l = [a, b] ∨ l = [b, a] := by
  obtain ⟨x, y, rfl⟩ : ∃ x y, l = [x, y] := by
    match l, h.length_eq with
    | [x, y], _ => exact ⟨x, y, rfl⟩
  have ha : a ∈ [x, y] := h.mem_iff.mpr List.mem_cons_self
  rcases List.mem_cons.mp ha with rfl | ha
  · exact .inl (congrArg _ (List.perm_singleton.mp ((List.perm_cons a).mp h)))
  · obtain rfl := List.mem_singleton.mp ha
    have hswap : [a, x].Perm [a, b] := (List.Perm.swap x a []).trans h
    exact .inr (congrArg (· ++ [a]) (List.perm_singleton.mp ((List.perm_cons a).mp hswap)))

section
variable {s : State} {id : NodeId} {r n : Nat} {g : LightSet} (h : (s.node id).service = .row r n g)
include h

/-- The lighting unit's part of a row report (R164). -/
theorem State.motionReport_effect (motion : Bool) :
    let t := s.motionReport id motion
    s.EffectFrame t ∧ t.bays = s.bays ∧ (∀ j, (s.node j).SameLink (t.node j))
      ∧ ((s.node id).outputPending = true → (t.node id).outputPending = true)
      ∧ ∃ g', (t.node id).service = .row r n g' ∧ g'.timer = if motion = true then some s.site.aisleTicks else g.timer := by
  unfold State.motionReport
  cases motion with
  | false => exact ⟨.refl s, rfl, fun _ => .refl _, fun hmark => hmark, g, h, rfl⟩
  | true =>
    have hover := s.setAisleTimer_handOver id (some s.site.aisleTicks)
    obtain ⟨hmark, hrow, -⟩ := s.node_setAisleTimer h (some s.site.aisleTicks)
    refine ⟨⟨hover.frame.field hover.buffer hover.miso, hover.frame.lines, hover.frame.sitePending,
      fun z => ⟨(hover.frame.zones z).S, (hover.frame.zones z).band⟩, fun z k _ => ?_⟩, hover.bays, hover.frame.nodes, hmark, hrow⟩
    rw [if_pos rfl, s.setAisleTimer_eq]
    rfl

/-- The census unit's part first, then the lighting unit's. -/
theorem State.rowMoved_census (hn : n ≤ 16) (p : BitVec 16) (motion : Bool) :
    s.RowMoved ((s.censusReport r n p).motionReport id motion) id r n g p motion := by
  have heffects := s.censusChange_effects (s.reportedChanges r n p)
  have hframe := (s.censusChange_frame (s.reportedChanges r n p)).1
  have hrefresh := s.censusChange_refreshes (s.reportedChanges r n p) id
  obtain ⟨g', hg', htimer⟩ := hrefresh.row r n g h
  obtain ⟨hlight, hbays, hlinks, hmark, hrow⟩ := State.motionReport_effect (s := s.censusReport r n p) hg' motion
  refine ⟨heffects.trans hlight, fun j => (hframe.nodes j).trans (hlinks j), hmark ∘ hrefresh.mark, ?_, fun b => ?_⟩
  · have hsite : (s.censusReport r n p).site = s.site := hframe.site
    rw [← htimer, ← hsite]
    exact hrow
  · exact (State.bay_of_bays hbays b).trans (s.bay_censusReport hn p b)

/-- The lighting unit's part first, then the census unit's. -/
theorem State.rowMoved_motion (hn : n ≤ 16) (p : BitVec 16) (motion : Bool) :
    s.RowMoved ((s.motionReport id motion).censusReport r n p) id r n g p motion := by
  obtain ⟨hlight, hbays, hlinks, hmark, g', hg', htimer⟩ := State.motionReport_effect h motion
  let u := s.motionReport id motion
  have heffects := u.censusChange_effects (u.reportedChanges r n p)
  have hframe := (u.censusChange_frame (u.reportedChanges r n p)).1
  have hrefresh := u.censusChange_refreshes (u.reportedChanges r n p) id
  obtain ⟨g'', hg'', htimer'⟩ := hrefresh.row r n g' hg'
  refine ⟨hlight.trans heffects, fun j => (hlinks j).trans (hframe.nodes j), hrefresh.mark ∘ hmark,
    ⟨g'', hg'', htimer'.trans htimer⟩, fun b => ?_⟩
  rw [u.bay_censusReport hn p b, State.bay_of_bays hbays, hlight.field.site]

/-- A row report applied (R85). -/
theorem State.rowReport_moved (hn : n ≤ 16) (p : BitVec 16) (motion : Bool) :
    s.RowMoved (s.rowReport id r n p motion) id r n g p motion := by
  obtain ⟨l, c, hperm, heq⟩ := s.inAnyOrder_eq
    (fun s i => if i = 0 then s.censusReport r n p else s.motionReport id motion) [0, 1]
  have hcounted : ∀ t, ({ s with choices := c } : State).RowMoved t id r n g p motion → s.RowMoved t id r n g p motion :=
    fun t ⟨heffects, hlinks, hmark, hrow, hbays⟩ => ⟨(s.choices_effects c).trans heffects, hlinks, hmark, hrow, hbays⟩
  rw [State.rowReport, heq]
  refine hcounted _ ?_
  rcases eq_of_perm_pair hperm with rfl | rfl
  · exact State.rowMoved_census (s := { s with choices := c }) h hn p motion
  · exact State.rowMoved_motion (s := { s with choices := c }) h hn p motion

end

/-! ## The node heard -/

theorem Node.taken_live {n : Node} (h : n.state = .live ∨ n.state = .silent) (tog : Bool) (m : Marker) :
    (n.taken tog m).state = .live := by
  rcases h with h | h <;> simp [Node.taken, h]

theorem Node.taken_mark {n : Node} (h : n.state = .silent) (tog : Bool) (m : Marker) : (n.taken tog m).outputPending = true := by
  simp [Node.taken, h]

/-- NODE_BACK stands in the set of a zone that the node serves, where its mask has it (R88). -/
theorem State.HeardZone.isIn_nodeBack {s : State} {id : NodeId} {z : Nat} {x : Zone} (h : s.HeardZone id z x) :
    EventKind.isIn .nodeBack x.pending = true ↔ EventKind.isIn .nodeBack (s.zone z).pending = true
      ∨ ((s.node id).state = .silent ∧ EventKind.isIn .nodeBack (s.zone z).cfg.mask = true ∧ s.Serves id z) := by
  obtain ⟨hraised, hkept⟩ := h
  by_cases hs : (s.node id).state = .silent ∧ s.Serves id z
  · rw [hraised hs, Zone.raise, EventKind.isIn_raised]
    simp [hs]
  · rw [hkept hs]
    exact ⟨.inl, fun h => h.resolve_right fun ⟨hsilent, _, hserves⟩ => hs ⟨hsilent, hserves⟩⟩

theorem Service.legal_count {r n : Nat} {g : LightSet} (h : (Service.row r n g).legal = true) : n ≤ 16 := by
  simp only [Service.legal, Bool.and_eq_true, decide_eq_true_eq] at h
  exact h.2

/-- Settles O47. -/
theorem rowReportMovesTheBays : Obligations.RowReportMovesTheBays := by
  intro s l v chars tog m p r n lights hs hw hp hservice hstate hfresh silent
  let id : NodeId := ⟨l, v.address⟩
  have hplace : id.Exists := hw.nodeExists hs
  have hcount : n ≤ 16 := by
    obtain ⟨-, -, -, -, -, hlegal, -⟩ := hs.node id
    exact Service.legal_count (hservice ▸ hlegal)
  have hheard := s.heardWith_report l id tog .none
  let u := s.heardWith l id tog .none
  have hurow : (u.node id).service = .row r n lights := by
    rw [hheard.node]
    exact hservice
  have hmoved := State.rowReport_moved hurow hcount p m
  have hreport : u.applyReport id (.row p m) = u.rowReport id r n p m := by
    simp only [State.applyReport, hurow, Service.rowBinding]
  have hexec : exec (.validReply l chars) s = .next (u.rowReport id r n p m).withOutputs := by
    have hjudged := (State.judgeReport_heardWith s l id tog (.row p m) hstate hfresh).trans hreport
    exact (exec_validReply_report hw hp (NodeState.on_of_answering hstate)).trans
      (congrArg (fun v : State => Host.Outcome.next v.withOutputs) hjudged)
  generalize u.rowReport id r n p m = w at hmoved hexec
  obtain ⟨heffects, hlinks, hmark, hrow, hbays⟩ := hmoved
  have hline : ∀ i, w.line i = u.line i := fun i => by rw [State.line, State.line, heffects.lines]
  have hsite : u.site = s.site := hheard.ended.frame.site
  have hubay : ∀ b, u.bay b = s.bay b := State.bay_of_bays (congrArg State.bays hheard.writes :)
  obtain ⟨hlive, hmisses, htoggle, hmarker, -⟩ := hlinks id
  rw [hheard.node] at hlive hmisses htoggle hmarker
  refine ⟨_, hexec, { hheard.ended.frame.trans heffects.field with }, ?site, fun hsilent => hmark ?mark, fun z _ => ?zone,
    (hline l).trans hheard.ended.line, fun i hi => (hline i).trans (hheard.ended.lines i hi),
    hlive.trans (Node.taken_live hstate tog .none), hmisses, hmarker, htoggle, hsite ▸ hrow, fun j hj hne => ?others,
    fun b => ?bay, fun hagree => ?tallies⟩
  case site =>
    show s.HeardSite id w.sitePending
    rw [heffects.sitePending]
    exact hheard.site
  case mark =>
    rw [hheard.node]
    exact Node.taken_mark hsilent tog .none
  case zone =>
    have hkept := heffects.events z .nodeBack (.inr rfl)
    have hback := (hheard.zones z).isIn_nodeBack
    rw [← hkept] at hback
    exact hback
  case others =>
    rw [← hheard.others j (NodeId.key_ne hj hplace hne)]
    exact hlinks j
  case bay =>
    refine (hbays b).trans ?_
    rw [hubay, hsite]
    refine ite_congr rfl (fun _ => ?_) fun _ => rfl
    unfold Bay.reported
    cases (s.bay b).census <;> cases p.getLsbD (b % 16) <;> rfl
  case tallies =>
    exact (State.talliesBut_nil _).mp ((exec_keeps hs (c := .validReply l chars) (decide_eq_true hw.line) hexec).tallies
      ((State.talliesBut_nil s).mpr hagree))

end Sys2Proof.Machine
end

section
/-! SUPPORT. The stages of a zone once nodes have gone silent (R119, R72): what each kind of silence effect does to them. -/

namespace Sys2Proof.Machine

/-! ## The stages of one zone record -/

/-- Every stage of `x` names no other node than stage `i`, but stage `i` itself. -/
def Zone.OnlyStage (x : Zone) (i : Nat) (id : NodeId) : Prop :=
  ∀ (j : Nat) (h : Stage), x.stages[j]? = some h → h.node = id → j = i

/-- Record `y` is `x` once the fans that meet `P` have gone silent (R119): a stage that is STOPPING or FAULTED stays, a STARTING
or RUNNING stage whose own fan is silent is FAULTED, and a RUNNING one may have gone STOPPING first. -/
structure Zone.StagesSilenced (P : NodeId → Prop) (x y : Zone) : Prop where
  cfg : y.cfg = x.cfg
  names : y.stages.map (·.node) = x.stages.map (·.node)
  resting : ∀ (i : Nat) (g : Stage), x.stages[i]? = some g → g.status = .stopping ∨ g.status = .faulted → y.stages[i]? = some g
  others : ∀ (i : Nat) (g : Stage), x.stages[i]? = some g → g.status = .starting ∨ g.status = .running → x.OnlyStage i g.node → ¬ P g.node →
    y.stages[i]? = some g ∨ (g.status = .running ∧ y.stages[i]? = some (g.stop x.cfg.rundownTicks))
  own : ∀ (i : Nat) (g : Stage), x.stages[i]? = some g → g.status = .starting ∨ g.status = .running → x.OnlyStage i g.node → P g.node →
    y.stages[i]? = some (g.fail .silent) ∨ (g.status = .running ∧ y.stages[i]? = some (g.stop x.cfg.rundownTicks))

theorem Zone.getElem?_of_names {x y : Zone} (h : y.stages.map (·.node) = x.stages.map (·.node)) {i : Nat} {g : Stage}
    (hg : y.stages[i]? = some g) : ∃ g', x.stages[i]? = some g' ∧ g'.node = g.node := by
  have hi : (x.stages.map (·.node))[i]? = some g.node := by
    rw [← h, List.getElem?_map, hg]
    rfl
  rw [List.getElem?_map] at hi
  exact Option.map_eq_some_iff.mp hi

theorem Zone.OnlyStage.of_names {x y : Zone} {i : Nat} {id : NodeId} (h : x.OnlyStage i id)
    (hnames : y.stages.map (·.node) = x.stages.map (·.node)) : y.OnlyStage i id := fun j g hg hnode => by
  obtain ⟨g', hg', hsame⟩ := Zone.getElem?_of_names hnames hg
  exact h j g' hg' (hsame.trans hnode)

theorem Zone.StagesSilenced.trans {P Q : NodeId → Prop} {x y z : Zone} (h : x.StagesSilenced P y) (k : y.StagesSilenced Q z) :
    x.StagesSilenced (fun id => P id ∨ Q id) z := by
  have hstopped : ∀ i (g : Stage), y.stages[i]? = some (g.stop x.cfg.rundownTicks) →
      z.stages[i]? = some (g.stop x.cfg.rundownTicks) := fun i g hg => k.resting i _ hg (.inl rfl)
  refine ⟨k.cfg.trans h.cfg, k.names.trans h.names, fun i g hg hrest => k.resting i g (h.resting i g hg hrest) hrest,
    fun i g hg hbusy honly hnot => ?_, fun i g hg hbusy honly hP => ?_⟩
  · obtain ⟨hnotP, hnotQ⟩ := not_or.mp hnot
    rcases h.others i g hg hbusy honly hnotP with hsame | ⟨hrun, hstop⟩
    · rw [← h.cfg]
      exact k.others i g hsame hbusy (honly.of_names h.names) hnotQ
    · exact .inr ⟨hrun, hstopped i g hstop⟩
  · by_cases hown : P g.node
    · rcases h.own i g hg hbusy honly hown with hfail | ⟨hrun, hstop⟩
      · exact .inl (k.resting i _ hfail (.inr rfl))
      · exact .inr ⟨hrun, hstopped i g hstop⟩
    · rcases h.others i g hg hbusy honly hown with hsame | ⟨hrun, hstop⟩
      · rw [← h.cfg]
        exact k.own i g hsame hbusy (honly.of_names h.names) (hP.resolve_left hown)
      · exact .inr ⟨hrun, hstopped i g hstop⟩

theorem Zone.StagesSilenced.congr {P Q : NodeId → Prop} {x y : Zone} (h : x.StagesSilenced P y)
    (hPQ : ∀ g ∈ x.stages, P g.node ↔ Q g.node) : x.StagesSilenced Q y :=
  ⟨h.cfg, h.names, h.resting, fun i g hg hbusy honly hnot => h.others i g hg hbusy honly fun hP =>
      hnot ((hPQ g (List.mem_of_getElem? hg)).mp hP),
    fun i g hg hbusy honly hQ => h.own i g hg hbusy honly ((hPQ g (List.mem_of_getElem? hg)).mpr hQ)⟩

/-- A stage that the sequencer may have moved, where it was not IDLE. -/
theorem Stage.SteppedTo.of_not_idle {ticks : Nat} {g h : Stage} (a : g.SteppedTo ticks h) (hidle : g.status ≠ .idle) :
    h = g ∨ (g.status = .running ∧ h = g.stop ticks) :=
  a.imp_right fun b => b.resolve_left fun c => hidle c.1

theorem StageStatus.not_idle {x : StageStatus} (h : x = .starting ∨ x = .running) : x ≠ .idle := by
  rintro rfl
  exact h.elim nofun nofun

theorem Stage.SteppedTo.of_resting {ticks : Nat} {g h : Stage} (a : g.SteppedTo ticks h)
    (hrest : g.status = .stopping ∨ g.status = .faulted) : h = g :=
  a.eq_of_busy (fun hi => by rw [hi] at hrest; exact hrest.elim nofun nofun)
    fun hr => by rw [hr] at hrest; exact hrest.elim nofun nofun

/-- Steps of the sequencer alone silence no stage. -/
theorem Zone.Stepped.silenced {x y : Zone} (h : x.Stepped y) : x.StagesSilenced (fun _ => False) y := by
  refine ⟨h.cfg, h.names, fun i g hg hrest => ?_, fun i g hg hbusy _ _ => ?_, fun _ _ _ _ _ hP => hP.elim⟩
  · obtain ⟨g', hg', hstep⟩ := h.getElem? hg
    rw [hg', hstep.of_resting hrest]
  · obtain ⟨g', hg', hstep⟩ := h.getElem? hg
    rw [hg']
    exact (hstep.of_not_idle (StageStatus.not_idle hbusy)).imp (congrArg some) (And.imp_right (congrArg some))

/-! ## The stage of a silent fan (R119) -/

section
variable (z : Zone) {i : Nat} {g : Stage}

theorem Zone.stepUpFailed_stepped : z.Stepped z.stepUpFailed := by
  unfold Zone.stepUpFailed
  split
  · split
    · rename_i i hi
      obtain ⟨⟨g, hg, hidle⟩, -⟩ := firstPlace_eq_some.mp hi
      exact z.changeStage_stepped hg (.inr (.inl ⟨of_decide_eq_true hidle, rfl, StageStatus.noConfusion⟩))
    · exact .of_stages z.endShort_inputs.air.cfg z.endShort_stages
  · exact z.enterIdle_stepped

/-- Silence faults the stage where it is STARTING or RUNNING, and the sequencer goes on from there (R119). -/
theorem Zone.silenceStage_stepped (hg : z.stages[i]? = some g) (hbusy : g.status = .starting ∨ g.status = .running) :
    (z.changeStage i (Stage.fail .silent)).Stepped (z.silenceStage i) := by
  have hstatus : z.statusAt i = g.status := by
    unfold Zone.statusAt
    rw [hg]
  have hraised := Zone.raise_stepped (z.changeStage i (Stage.fail .silent)) .fanFault
  unfold Zone.silenceStage Zone.faultStage
  rcases hbusy with h | h
  · rw [hstatus, h]
    exact hraised.trans (Zone.stepUpFailed_stepped _)
  · rw [hstatus, h]
    exact (hraised.trans (Zone.figures_stepped _)).trans (Zone.tellSequencer_stepped _)

theorem Zone.silenceStage_idle (hg : z.stages[i]? = some g) (hrest : ¬ (g.status = .starting ∨ g.status = .running)) :
    z.silenceStage i = z := by
  have hstatus : z.statusAt i = g.status := by
    unfold Zone.statusAt
    rw [hg]
  unfold Zone.silenceStage
  rw [hstatus]
  cases h : g.status with
  | idle | stopping | faulted => rfl
  | starting | running =>
    rw [h] at hrest
    simp at hrest

/-- Silence of node `id` reaches the stage of the zone that names it (R119). -/
def Zone.silenceNode (id : NodeId) : Zone :=
  match z.stagePlace id with
  | some i => z.silenceStage i
  | none => z

theorem Zone.silenceNode_silenced (id : NodeId) : z.StagesSilenced (· = id) (z.silenceNode id) := by
  unfold Zone.silenceNode
  split
  · rename_i i hplace
    obtain ⟨⟨g, hg, hnode⟩, -⟩ := firstPlace_eq_some.mp hplace
    have hnode : g.node = id := of_decide_eq_true hnode
    by_cases hbusy : g.status = .starting ∨ g.status = .running
    · have hstep := z.silenceStage_stepped hg hbusy
      have hat : ∀ k x, z.stages[k]? = some x → k ≠ i → (z.changeStage i (Stage.fail .silent)).stages[k]? = some x := fun k x hx hk => by
        rw [Zone.stages_changeStage_of hg, if_neg hk, hx]
      have hown : (z.changeStage i (Stage.fail .silent)).stages[i]? = some (g.fail .silent) := by
        rw [Zone.stages_changeStage_of hg, if_pos rfl]
      refine ⟨hstep.cfg, hstep.names.trans (Zone.changeStage_names (f := Stage.fail .silent) (fun _ => rfl) z i), fun k x hx hrest => ?_,
        fun k x hx hkbusy _ hne => ?_, fun k x hx _ honly hsame => .inl ?_⟩
      · have hk : k ≠ i := fun heq => by
          subst heq
          cases hg.symm.trans hx
          rcases hrest with h | h <;> rw [h] at hbusy <;> exact hbusy.elim nofun nofun
        obtain ⟨x', hx', hmoved⟩ := hstep.getElem? (hat k x hx hk)
        rw [hx', hmoved.of_resting hrest]
      · have hk : k ≠ i := fun heq => by
          subst heq
          cases hg.symm.trans hx
          exact hne hnode
        obtain ⟨x', hx', hmoved⟩ := hstep.getElem? (hat k x hx hk)
        rw [hx']
        exact (hmoved.of_not_idle (StageStatus.not_idle hkbusy)).imp (congrArg some) (And.imp_right (congrArg some))
      · have hk : i = k := honly i g hg (hnode.trans hsame.symm)
        subst hk
        cases hg.symm.trans hx
        obtain ⟨x', hx', hmoved⟩ := hstep.getElem? hown
        rw [hx', hmoved.of_resting (.inr rfl)]
    · rw [z.silenceStage_idle hg hbusy]
      refine ⟨rfl, rfl, fun _ _ hx _ => hx, fun _ _ hx _ _ _ => .inl hx, fun k x hx hkbusy honly hsame => ?_⟩
      have hk : i = k := honly i g hg (hnode.trans hsame.symm)
      subst hk
      cases hg.symm.trans hx
      exact absurd hkbusy hbusy
  · rename_i hnone
    refine ⟨rfl, rfl, fun _ _ hx _ => hx, fun _ _ hx _ _ _ => .inl hx, fun k x hx _ _ hsame => ?_⟩
    have hall := firstPlace_eq_none.mp hnone x (List.mem_of_getElem? hx)
    exact absurd hsame (of_decide_eq_false hall)

end

end Sys2Proof.Machine
end

section
/-! SUPPORT. What nodes that go silent, one after another, make of every record (R72, R82, R88). -/

namespace Sys2Proof.Machine

/-! ## The stages after the effects of a silence -/

/-- Every zone's stages are moved by its own sequencer only. -/
def State.Stepped (s t : State) : Prop := ∀ z, (s.zone z).Stepped (t.zone z)

theorem State.Stepped.foldl {α : Type} {f : State → α → State} (hf : ∀ (s : State) a, s.Stepped (f s a)) (l : List α) (s : State) :
    s.Stepped (l.foldl f s) := by
  induction l generalizing s with
  | nil => exact fun z => .refl _
  | cons a l ih => exact fun z => (hf s a z).trans (ih _ z)

section
variable (s : State)

theorem State.censusChange_stepped (changes : List (Nat × Bay)) : s.Stepped (s.censusChange changes) := fun z => by
  rw [s.zone_censusChange]
  split
  · exact Zone.takeTallies_stepped _ _
  · exact .refl _

theorem State.changeZone_stepped (z : Nat) {x : Zone} (h : (s.zone z).Stepped x) : s.Stepped (s.changeZone z x) := fun i => by
  by_cases hi : i = z
  · subst hi
    rw [s.zone_changeZone]
    split
    · exact h
    · exact h.trans (Zone.takeTallies_stepped _ _)
  · rw [(s.changeZone_frame z x).zones i hi]
    exact .refl _

/-- The effects of a silence that is no fan's move no stage but by the sequencers (R20, R112). -/
theorem State.barEffects_stepped (id : NodeId) : s.Stepped (s.barEffects id) := by
  unfold State.barEffects
  split
  · exact s.censusChange_stepped _
  · exact .foldl (fun s z => s.changeZone_stepped z (Zone.withSlots_stepped _ _)) _ s
  · intro z
    unfold State.abandonAnswer
    split
    · split <;> exact .refl _
    all_goals exact .refl _
  all_goals exact fun z => .refl _

/-- A fold that changes each zone of a list without repeats once, from the record it had. -/
theorem State.zone_foldl_once {f : State → Nat → State} {F : Zone → Zone}
    (hf : ∀ (s : State) y z, (f s y).zone z = if z = y then F (s.zone z) else s.zone z) {l : List Nat} (hl : l.Nodup) (s : State)
    (z : Nat) : (l.foldl f s).zone z = if z ∈ l then F (s.zone z) else s.zone z := by
  induction l generalizing s with
  | nil => rfl
  | cons y l ih =>
    obtain ⟨hy, hl⟩ := List.nodup_cons.mp hl
    rw [List.foldl_cons, ih hl, hf]
    by_cases hzy : z = y
    · subst hzy
      simp [hy]
    · simp [hzy]

/-- Silence of a fan node reaching the stage of one zone. -/
def State.silenceFanIn (s : State) (id : NodeId) (z : Nat) : State :=
  match (s.zone z).stagePlace id with
  | some i => s.putZone z ((s.zone z).silenceStage i)
  | none => s

theorem State.silenceFanNode_eq (id : NodeId) :
    s.silenceFanNode id = (s.zonesWhere (·.hasStageOf id)).foldl (fun s z => s.silenceFanIn id z) s := rfl

theorem State.zone_silenceFanIn (id : NodeId) (y z : Nat) :
    (s.silenceFanIn id y).zone z = if z = y then (s.zone z).silenceNode id else s.zone z := by
  unfold State.silenceFanIn
  by_cases hzy : z = y
  · subst hzy
    unfold Zone.silenceNode
    cases (s.zone z).stagePlace id with
    | none => simp
    | some i =>
      rw [if_pos rfl]
      exact s.putZone_self z _
  · rw [if_neg hzy]
    split
    · rw [s.zone_putZone, if_neg hzy]
    · rfl

/-- Silence of a fan node reaches the stage of every zone that names it (R119). -/
theorem State.zone_silenceFanNode (id : NodeId) {z : Nat} (hz : z < 32) :
    (s.silenceFanNode id).zone z = (s.zone z).silenceNode id := by
  rw [s.silenceFanNode_eq, State.zone_foldl_once (F := fun x => x.silenceNode id)
    (fun s y z => s.zone_silenceFanIn id y z) (s.zonesWhere_nodup _)]
  split
  · rfl
  · rename_i hnot
    have hnone : (s.zone z).stagePlace id = none := firstPlace_eq_none.mpr fun g hg => by
      refine Classical.byContradiction fun hnamed => ?_
      refine hnot ((s.mem_zonesWhere _ z).mpr ⟨hz, List.any_eq_true.mpr ⟨g, hg, by simpa using hnamed⟩⟩)
    unfold Zone.silenceNode
    rw [hnone]

end

/-! ## The event of a silence (R88) -/

section
variable (s : State) (id : NodeId)

theorem State.raiseSilence_eq_zones : s.raiseSilence id =
    { s with zones := (s.raiseSilence id).zones, sitePending := (s.raiseSilence id).sitePending } := by
  unfold State.raiseSilence
  split
  · rfl
  · rfl
  · exact s.raiseNodeEvent_eq id .nodeSilent
  · exact s.raiseNodeEvent_eq id .nodeSilent
  · exact s.raiseNodeEvent_eq id .nodeSilent
  · rfl

/-- NODE_SILENT is raised in the zones that the node serves; a SIGN and an ENTRY node serve none. -/
theorem State.zone_raiseSilence (z : Nat) : (s.Serves id z → (s.raiseSilence id).zone z = (s.zone z).raise .nodeSilent)
    ∧ (¬ s.Serves id z → (s.raiseSilence id).zone z = s.zone z) := by
  have hraised := s.zone_raiseNodeEvent id .nodeSilent z
  unfold State.raiseSilence
  cases hv : (s.node id).service with
  | row | gas | fan => exact hraised
  | sign | entry | none =>
    refine ⟨fun hserves => ?_, fun _ => rfl⟩
    unfold State.Serves at hserves
    rw [hv] at hserves
    exact hserves.elim

/-- What a silence raises in SITE is never LINE_FAULT. -/
theorem State.sitePending_raiseSilence :
    EventKind.isIn .lineFault (s.raiseSilence id).sitePending = EventKind.isIn .lineFault s.sitePending := by
  have hsite : ∀ k : EventKind, k ≠ .lineFault →
      EventKind.isIn .lineFault (s.raiseSite k).sitePending = EventKind.isIn .lineFault s.sitePending := fun k hk => by
    rw [State.raiseSite, EventKind.isIn_raised]
    simp [hk.symm]
  have hnode : EventKind.isIn .lineFault (s.raiseNodeEvent id .nodeSilent).sitePending
      = EventKind.isIn .lineFault s.sitePending := by
    obtain ⟨hnone, hsome⟩ := s.sitePending_raiseNodeEvent id .nodeSilent
    by_cases h : ∀ z, ¬ s.Serves id z
    · rw [hnone h]
      exact hsite .nodeSilent (by simp)
    · rw [hsome h]
  unfold State.raiseSilence
  split
  · exact hsite .signSilent (by simp)
  · exact hsite .entrySilent (by simp)
  · exact hnode
  · exact hnode
  · exact hnode
  · rfl

end

end Sys2Proof.Machine
end

section
/-! SUPPORT. The silence effects of one node on the records of other owners (R56, R72). -/

namespace Sys2Proof.Machine

/-- The silence effects of a node, by its kind (R72). -/
def State.silenceEffects (s : State) (id : NodeId) : State :=
  if (s.node id).service = .fan then s.silenceFanNode id else s.barEffects id

/-- A bay once its node has gone silent (R8). -/
def Bay.silenced (b : Bay) : Bay := if b.cls = .retired ∨ b.census = .dark then b else b.darkened

/-- The row of a binding. -/
def Service.rowNumber (v : Service) : Option Nat := v.rowBinding.map (·.1)

/-- What the silence effects of node `id` make of `s`. -/
structure State.SilenceEffect (s t : State) (id : NodeId) : Prop where
  frame : s.EffectFrame t
  self : (t.node id).state = (s.node id).state ∧ (t.node id).misses = (s.node id).misses
    ∧ (t.node id).toggle = (s.node id).toggle ∧ (t.node id).marker = (s.node id).marker
    ∧ (t.node id).service.kind = (s.node id).service.kind
    ∧ (t.node id).service.rowBinding = (s.node id).service.rowBinding
    ∧ ∀ e a, (s.node id).service = .entry e a → (t.node id).service = .entry e .ready
  others : ∀ j : NodeId, j.key ≠ id.key → (s.node j).SameLink (t.node j)
  marks : s.MarksKept t
  bays : ∀ b, t.bay b = if (s.node id).service.rowNumber = some (b / 16) then (s.bay b).silenced else s.bay b
  slots : ∀ z, z < 32 → (t.zone z).slots
    = (s.zone z).slots.map fun g => if (s.node id).service = .gas ∧ g.node = id then g.goStale else g
  stages : ∀ z, z < 32 → (s.zone z).StagesSilenced (fun j => j = id ∧ (s.node id).service = .fan) (t.zone z)

section
variable (s : State) (id : NodeId)

theorem State.staleGasNode_marks : s.MarksKept (s.staleGasNode id) :=
  .foldl _ (fun s z => s.changeZone_marks z _) _ s

theorem State.silenceFanIn_effects (z : Nat) : s.EffectFrame (s.silenceFanIn id z) ∧ (s.silenceFanIn id z).bays = s.bays
    ∧ s.MarksKept (s.silenceFanIn id z) := by
  unfold State.silenceFanIn
  split
  · exact ⟨State.putZone_effects (Zone.silenceStage_inputs _ _).air (Zone.silenceStage_events _ _), s.putZone_bays z _,
      s.putZone_marks z _⟩
  · exact ⟨.refl s, rfl, .refl s⟩

theorem State.silenceFanNode_marks : s.MarksKept (s.silenceFanNode id) :=
  .foldl _ (fun s z => (s.silenceFanIn_effects id z).2.2) _ s

theorem State.silenceFanNode_bays : (s.silenceFanNode id).bays = s.bays :=
  foldl_field (·.bays) _ (fun s z => (s.silenceFanIn_effects id z).2.1) _ s

theorem State.barEffects_marks : s.MarksKept (s.barEffects id) := by
  unfold State.barEffects
  split
  · exact fun j => (s.censusChange_refreshes _ j).mark
  · exact s.staleGasNode_marks id
  · unfold State.abandonAnswer
    split
    · split
      · exact .refl s
      · exact s.setNode_marks id _ rfl
    all_goals exact .refl s
  all_goals exact .refl s

theorem Zone.silenceNode_slots (z : Zone) : (z.silenceNode id).slots = z.slots := by
  unfold Zone.silenceNode
  split
  · exact (z.silenceStage_inputs _).air.slots
  · rfl

/-- The silence effects, for every kind (R72). -/
theorem State.silenceEffects_effect : s.SilenceEffect (s.silenceEffects id) id := by
  unfold State.silenceEffects
  by_cases hfan : (s.node id).service = .fan
  · rw [if_pos hfan]
    have hlinks := s.silenceFanNode_links id
    have hself := hlinks id
    refine ⟨s.silenceFanNode_effects id, ⟨hself.state, hself.misses, hself.toggle, hself.marker, hself.kind, hself.row,
      fun e a h => ?_⟩, fun j _ => hlinks j, s.silenceFanNode_marks id, fun b => ?_, fun z hz => ?_, fun z hz => ?_⟩
    · cases hfan.symm.trans h
    · rw [State.bay_of_bays (s.silenceFanNode_bays id), hfan]
      rfl
    · rw [s.zone_silenceFanNode id hz, Zone.silenceNode_slots]
      simp [hfan]
    · rw [s.zone_silenceFanNode id hz]
      exact ((s.zone z).silenceNode_silenced id).congr fun g _ => (and_iff_left hfan).symm
  · rw [if_neg hfan]
    refine ⟨s.barEffects_effects id, s.node_barEffects, fun j hj => s.nodes_barEffects hj, s.barEffects_marks id,
      s.bay_barEffects, fun z hz => s.slots_barEffects hz, fun z _ => ?_⟩
    exact (s.barEffects_stepped id z).silenced.congr fun g _ => ⟨False.elim, fun h => hfan h.2⟩

end

end Sys2Proof.Machine
end

section
/-! SUPPORT. Nodes that go silent one after another: one node's silence, and how two of them come together (R72, R82, R88). -/

namespace Sys2Proof.Machine

/-! ## The relation -/

/-- Node record `n` is `m` after a silence, of this node where `q` holds (R72, R138). -/
structure Node.SilencedAs (q : Bool) (m n : Node) : Prop where
  state : n.state = if q = true then .silent else m.state
  misses : n.misses = m.misses
  toggle : n.toggle = m.toggle
  marker : n.marker = m.marker
  kind : n.service.kind = m.service.kind
  row : n.service.rowBinding = m.service.rowBinding
  mark : m.outputPending = true → n.outputPending = true
  answer : ∀ e a, m.service = .entry e a → n.service = .entry e (if q = true then .ready else a)

/-- A node that meets `p` reports bay `b`'s row. -/
def State.RowSilent (s : State) (p : NodeId → Bool) (b : Nat) : Prop :=
  ∃ id : NodeId, id.Exists ∧ p id = true ∧ (s.node id).service.rowNumber = some (b / 16)

/-- The nodes that meet `p` have gone SILENT, one after another, with all their effects (R72, R88). -/
structure State.WentSilent (p : NodeId → Bool) (s t : State) : Prop where
  field : s.FieldFrame t
  lines : t.lines = s.lines
  lineFault : EventKind.isIn .lineFault t.sitePending = EventKind.isIn .lineFault s.sitePending
  fume : ∀ z, (t.zone z).S = (s.zone z).S ∧ (t.zone z).band = (s.zone z).band
  nodes : ∀ id : NodeId, id.Exists → (s.node id).SilencedAs (p id) (t.node id)
  dark : ∀ b, s.RowSilent p b → t.bay b = (s.bay b).silenced
  bays : ∀ b, ¬ s.RowSilent p b → t.bay b = s.bay b
  slots : ∀ z, z < 32 → (t.zone z).slots = (s.zone z).slots.map fun g =>
    if p g.node = true ∧ (s.node g.node).service = .gas then g.goStale else g
  stages : ∀ z, z < 32 → (s.zone z).StagesSilenced (fun j => p j = true ∧ (s.node j).service = .fan) (t.zone z)
  events : ∀ z, z < 32 → (EventKind.isIn .nodeSilent (t.zone z).pending = true ↔ EventKind.isIn .nodeSilent (s.zone z).pending = true
    ∨ (EventKind.isIn .nodeSilent (s.zone z).cfg.mask = true ∧ ∃ id : NodeId, id.Exists ∧ p id = true ∧ s.Serves id z))

/-! ## Two silences together -/

theorem Bay.silenced_kept (b : Bay) : b.silenced.cls = b.cls ∧ b.silenced.zone = b.zone ∧ b.silenced.silenced = b.silenced := by
  unfold Bay.silenced
  by_cases h : b.cls = .retired ∨ b.census = .dark
  · rw [if_pos h, if_pos h]
    exact ⟨rfl, rfl, rfl⟩
  · rw [if_neg h]
    exact ⟨rfl, rfl, if_pos (.inr rfl)⟩

theorem Node.SilencedAs.trans {p q : Bool} {m n o : Node} (h : m.SilencedAs p n) (k : n.SilencedAs q o) :
    m.SilencedAs (p || q) o := by
  refine ⟨?_, k.misses.trans h.misses, k.toggle.trans h.toggle, k.marker.trans h.marker, k.kind.trans h.kind, k.row.trans h.row,
    k.mark ∘ h.mark, fun e a ha => ?_⟩
  · rw [k.state, h.state]
    cases p <;> cases q <;> rfl
  · rw [k.answer e _ (h.answer e a ha)]
    cases p <;> cases q <;> rfl

theorem Service.eq_gas_iff {v : Service} : v = .gas ↔ v.kind = some .gas := by
  cases v <;> simp [Service.kind]

theorem Service.eq_fan_iff {v : Service} : v = .fan ↔ v.kind = some .fan := by
  cases v <;> simp [Service.kind]

/-- The nodes that slots and stages name exist (R91, R117). -/
theorem State.Legal.named_exist {s : State} (hs : s.Legal) (z : Nat) :
    (∀ g ∈ (s.zone z).slots, g.node.Exists) ∧ ∀ g ∈ (s.zone z).stages, g.node.Exists := by
  obtain ⟨-, -, -, hslots, -, -, -, -, hstages, -⟩ := hs.zone z
  exact ⟨fun g hg => (hslots g hg).1, hstages⟩

section
variable {s t u : State} {p q : NodeId → Bool}

theorem State.WentSilent.bay_kept (h : s.WentSilent p t) (b : Nat) : (t.bay b).cls = (s.bay b).cls ∧ (t.bay b).zone = (s.bay b).zone := by
  by_cases hb : s.RowSilent p b
  · rw [h.dark b hb]
    exact ⟨(s.bay b).silenced_kept.1, (s.bay b).silenced_kept.2.1⟩
  · rw [h.bays b hb]
    exact ⟨rfl, rfl⟩

/-- Silence moves no binding, no zone of a bay, and no name of a slot or stage: every node serves the zones it served. -/
theorem State.WentSilent.serves_iff (h : s.WentSilent p t) {id : NodeId} (hid : id.Exists) (z : Nat) :
    t.Serves id z ↔ s.Serves id z := by
  have hnode := h.nodes id hid
  have hstages : z < 32 → ((∃ g ∈ (t.zone z).stages, g.node = id) ↔ ∃ g ∈ (s.zone z).stages, g.node = id) := fun hz => by
    have hmem : ∀ l : List Stage, (∃ g ∈ l, g.node = id) ↔ id ∈ l.map (·.node) := fun l => by simp
    rw [hmem, hmem, (h.stages z hz).names]
  have hslots : z < 32 → ((∃ g ∈ (t.zone z).slots, g.node = id) ↔ ∃ g ∈ (s.zone z).slots, g.node = id) := fun hz => by
    rw [h.slots z hz]
    have hkept : ∀ g : Slot, (if p g.node = true ∧ (s.node g.node).service = .gas then g.goStale else g).node = g.node :=
      fun g => by split <;> rfl
    constructor
    · rintro ⟨g', hg', hname⟩
      obtain ⟨g, hg, rfl⟩ := List.mem_map.mp hg'
      exact ⟨g, hg, (hkept g).symm.trans hname⟩
    · rintro ⟨g, hg, hname⟩
      exact ⟨_, List.mem_map_of_mem hg, (hkept g).trans hname⟩
  unfold State.Serves
  cases hv : (s.node id).service with
  | row r n g =>
    obtain ⟨g', hg'⟩ := Service.rowBinding_eq_some.mp (hnode.row.trans (by rw [hv]; rfl))
    rw [hg']
    simp only [(h.bay_kept _).1, (h.bay_kept _).2]
  | gas =>
    rw [Service.eq_gas_iff.mpr (hnode.kind.trans (by rw [hv]; rfl))]
    exact and_congr_right hslots
  | fan =>
    rw [Service.eq_fan_iff.mpr (hnode.kind.trans (by rw [hv]; rfl))]
    exact and_congr_right hstages
  | entry e a =>
    rw [hnode.answer e a hv]
  | none | sign =>
    have hkind := hnode.kind
    rw [hv] at hkind
    cases hv' : (t.node id).service <;> rw [hv'] at hkind <;> cases hkind

/-- Two silences, one after the other (R72). -/
theorem State.WentSilent.trans (hs : s.Legal) (h : s.WentSilent p t) (k : t.WentSilent q u) :
    s.WentSilent (fun j => p j || q j) u := by
  have hrow : ∀ b, t.RowSilent q b ↔ s.RowSilent q b := fun b =>
    exists_congr fun id => and_congr_right fun hid => by
      unfold Service.rowNumber
      rw [(h.nodes id hid).row]
  have hor : ∀ b, s.RowSilent (fun j => p j || q j) b ↔ s.RowSilent p b ∨ s.RowSilent q b := fun b => by
    simp only [State.RowSilent, Bool.or_eq_true, ← exists_or]
    exact exists_congr fun id => by rw [← and_or_left, ← or_and_right]
  refine ⟨h.field.trans k.field, k.lines.trans h.lines, k.lineFault.trans h.lineFault,
    fun z => ⟨(k.fume z).1.trans (h.fume z).1, (k.fume z).2.trans (h.fume z).2⟩, fun id hid => (h.nodes id hid).trans (k.nodes id hid),
    fun b hb => ?_, fun b hb => ?_, fun z hz => ?_, fun z hz => ?_, fun z hz => ?_⟩
  · by_cases hq : s.RowSilent q b
    · rw [k.dark b ((hrow b).mpr hq)]
      by_cases hp : s.RowSilent p b
      · rw [h.dark b hp, (s.bay b).silenced_kept.2.2]
      · rw [h.bays b hp]
    · rw [k.bays b fun hq' => hq ((hrow b).mp hq'), h.dark b (((hor b).mp hb).resolve_right hq)]
  · obtain ⟨hp, hq⟩ := not_or.mp fun hpq => hb ((hor b).mpr hpq)
    rw [k.bays b fun hq' => hq ((hrow b).mp hq'), h.bays b hp]
  · rw [k.slots z hz, h.slots z hz, List.map_map]
    refine List.map_congr_left fun g hg => ?_
    have hexists : g.node.Exists := (hs.named_exist z).1 g hg
    have hgas : (t.node g.node).service = .gas ↔ (s.node g.node).service = .gas := by
      rw [Service.eq_gas_iff, Service.eq_gas_iff, (h.nodes g.node hexists).kind]
    have hname : ∀ c : Prop, [Decidable c] → (if c then g.goStale else g).node = g.node := fun c _ => by split <;> rfl
    by_cases hp : p g.node = true ∧ (s.node g.node).service = .gas
    · by_cases hq : q g.node = true <;> simp [hp, hq, hgas, Slot.goStale]
    · simp only [Function.comp_apply, if_neg hp, hgas]
      by_cases hq : q g.node = true ∧ (s.node g.node).service = .gas
      · simp [hq]
      · rw [if_neg hq, if_neg]
        simp only [Bool.or_eq_true]
        exact fun ⟨hpq, hg⟩ => hpq.elim (fun h => hp ⟨h, hg⟩) fun h => hq ⟨h, hg⟩
  · refine ((h.stages z hz).trans (k.stages z hz)).congr fun g hg => ?_
    have hexists : g.node.Exists := (hs.named_exist z).2 g hg
    have hfan : (t.node g.node).service = .fan ↔ (s.node g.node).service = .fan := by
      rw [Service.eq_fan_iff, Service.eq_fan_iff, (h.nodes g.node hexists).kind]
    simp only [hfan, Bool.or_eq_true]
    exact or_and_right.symm
  · rw [k.events z hz, h.events z hz, (h.field.cfg z).1, or_assoc, ← and_or_left, ← exists_or]
    refine or_congr Iff.rfl (and_congr_right fun _ => exists_congr fun id => ?_)
    rw [← and_or_left]
    refine and_congr_right fun hid => ?_
    rw [h.serves_iff hid, Bool.or_eq_true, or_and_right]

theorem State.WentSilent.congr (hs : s.Legal) (h : s.WentSilent p t) (hpq : ∀ id : NodeId, id.Exists → p id = q id) :
    s.WentSilent q t := by
  have hrow : ∀ b, s.RowSilent q b ↔ s.RowSilent p b := fun b =>
    exists_congr fun id => and_congr_right fun hid => by rw [hpq id hid]
  refine ⟨h.field, h.lines, h.lineFault, h.fume, fun id hid => hpq id hid ▸ h.nodes id hid, fun b hb => h.dark b ((hrow b).mp hb),
    fun b hb => h.bays b fun hp => hb ((hrow b).mpr hp), fun z hz => ?_, fun z hz => ?_, fun z hz => ?_⟩
  · rw [h.slots z hz]
    exact List.map_congr_left fun g hg => by rw [hpq g.node ((hs.named_exist z).1 g hg)]
  · exact (h.stages z hz).congr fun g hg => by rw [hpq g.node ((hs.named_exist z).2 g hg)]
  · rw [h.events z hz]
    refine or_congr Iff.rfl (and_congr_right fun _ => exists_congr fun id => and_congr_right fun hid => ?_)
    rw [hpq id hid]

end

end Sys2Proof.Machine
end

section
/-! SUPPORT. One node gone silent, and a list of them (R72, R82). -/

namespace Sys2Proof.Machine

/-! ## One node -/

/-- The record of a node gone SILENT with its event raised, before its effects (R72, R88). -/
def State.silentRaised (s : State) (id : NodeId) : State :=
  (s.setNode id { s.node id with state := .silent }).raiseSilence id

section
variable (s : State) {id : NodeId}

theorem State.silentRaised_node (j : NodeId) :
    (s.silentRaised id).node j = (s.setNode id { s.node id with state := .silent }).node j := by
  unfold State.silentRaised
  rw [State.raiseSilence_eq_zones]
  rfl

theorem State.silentRaised_self : (s.silentRaised id).node id = { s.node id with state := .silent } := by
  rw [s.silentRaised_node, State.node_setNode_self]

theorem State.silentRaised_other {j : NodeId} (hj : j.key ≠ id.key) : (s.silentRaised id).node j = s.node j := by
  rw [s.silentRaised_node, State.node_setNode, if_neg hj]

theorem State.silentRaised_zone (z : Nat) : (s.Serves id z → (s.silentRaised id).zone z = (s.zone z).raise .nodeSilent)
    ∧ (¬ s.Serves id z → (s.silentRaised id).zone z = s.zone z) := by
  have hraised := (s.setNode id { s.node id with state := .silent }).zone_raiseSilence id z
  rw [s.serves_setNode id (n := { s.node id with state := .silent }) rfl] at hraised
  exact hraised

/-- The event writes nothing of a zone but its pending set. -/
theorem State.silentRaised_inputs (z : Nat) : (s.zone z).SameInputs ((s.silentRaised id).zone z)
    ∧ ((s.silentRaised id).zone z).stages = (s.zone z).stages := by
  obtain ⟨hserves, hnot⟩ := s.silentRaised_zone (id := id) z
  by_cases h : s.Serves id z
  · rw [hserves h]
    exact ⟨Zone.raise_inputs _ _, rfl⟩
  · rw [hnot h]
    exact ⟨.refl _, rfl⟩

theorem State.silentRaised_frame : s.FieldFrame (s.silentRaised id) ∧ (s.silentRaised id).lines = s.lines
    ∧ (s.silentRaised id).bays = s.bays := by
  have hwrites := (s.setNode id { s.node id with state := .silent }).raiseSilence_eq_zones id
  refine ⟨⟨?_, ?_, ?_, ?_, ?_, ?_, ?_, ?_, ?_, fun z => (s.silentRaised_inputs z).1.air.settings, fun i => ?_⟩, ?_, ?_⟩
  all_goals
    unfold State.silentRaised
    rw [hwrites]
  case refine_10 => exact .refl _
  all_goals rfl

theorem State.goSilent_eq : s.goSilent id = (s.silentRaised id).silenceEffects id := by
  unfold State.silenceEffects
  rw [s.silentRaised_self]
  rfl

/-- One node gone silent, as the relation has it (R72). -/
theorem State.goSilent_wentSilent (hid : id.Exists) : s.WentSilent (fun j => decide (j = id)) (s.goSilent id) := by
  let u := s.silentRaised id
  have hself : u.node id = { s.node id with state := .silent } := s.silentRaised_self
  obtain ⟨hfield, hlines, hbays⟩ := s.silentRaised_frame (id := id)
  obtain ⟨heffects, ⟨hstate, hmisses, htoggle, hmarker, hkind, hrow, hentry⟩, hothers, hmarks, hdark, hslots, hstages⟩ :=
    u.silenceEffects_effect id
  rw [hself] at hstate hmisses htoggle hmarker hkind hrow hentry
  have hrowSilent : ∀ b, s.RowSilent (fun j => decide (j = id)) b ↔ (s.node id).service.rowNumber = some (b / 16) := fun b => by
    simp only [State.RowSilent, decide_eq_true_eq]
    exact ⟨fun ⟨j, _, hj, hr⟩ => hj ▸ hr, fun hr => ⟨id, hid, rfl, hr⟩⟩
  have hbay : ∀ b, u.bay b = s.bay b := State.bay_of_bays hbays
  rw [s.goSilent_eq]
  refine ⟨hfield.trans heffects.field, heffects.lines.trans hlines, ?event, fun z => ?fume, fun j hj => ?node, fun b hb => ?dark,
    fun b hb => ?bay, fun z hz => ?slots, fun z hz => ?stages, fun z hz => ?zone⟩
  case event =>
    rw [heffects.sitePending]
    exact (s.setNode id { s.node id with state := .silent }).sitePending_raiseSilence id
  case fume =>
    obtain ⟨hS, hband⟩ := heffects.fume z
    have hair := (s.silentRaised_inputs (id := id) z).1.air
    exact ⟨hS.trans hair.S, hband.trans hair.band⟩
  case node =>
    by_cases heq : j = id
    · subst heq
      rw [decide_eq_true rfl]
      refine ⟨hstate, hmisses, htoggle, hmarker, hkind, hrow, fun hm => hmarks j ?_, hentry⟩
      rw [hself]
      exact hm
    · rw [decide_eq_false heq]
      have hkey := NodeId.key_ne hj hid heq
      have hsame := s.silentRaised_other (id := id) hkey
      have hlink := hothers j hkey
      have hmark := hmarks j
      rw [hsame] at hlink hmark
      exact ⟨hlink.state, hlink.misses, hlink.toggle, hlink.marker, hlink.kind, hlink.row, hmark,
        fun e a h => Service.answer_eq_some.mp (hlink.answer.trans (Service.answer_eq_some.mpr h))⟩
  case dark =>
    rw [hdark, hself, if_pos ((hrowSilent b).mp hb), hbay]
  case bay =>
    rw [hdark, hself, if_neg fun h => hb ((hrowSilent b).mpr h), hbay]
  case slots =>
    rw [hslots z hz, (s.silentRaised_inputs z).1.air.slots, hself]
    refine List.map_congr_left fun g _ => ite_congr (propext ?_) (fun _ => rfl) fun _ => rfl
    rw [decide_eq_true_eq, and_comm]
    exact and_congr_right fun h => by rw [h]
  case stages =>
    obtain ⟨hinputs, hsame⟩ := s.silentRaised_inputs (id := id) z
    have hzone : (s.zone z).Stepped (u.zone z) := .of_stages hinputs.air.cfg hsame
    refine (hzone.silenced.trans (hstages z hz)).congr fun g _ => ?_
    rw [hself, false_or, decide_eq_true_eq]
    exact and_congr_right fun h => by rw [h]
  case zone =>
    rw [heffects.events z .nodeSilent (.inl rfl)]
    have hexists : (∃ j : NodeId, j.Exists ∧ decide (j = id) = true ∧ s.Serves j z) ↔ s.Serves id z := by
      simp only [decide_eq_true_eq]
      exact ⟨fun ⟨j, _, hj, hserves⟩ => hj ▸ hserves, fun hserves => ⟨id, hid, rfl, hserves⟩⟩
    obtain ⟨hserves, hnot⟩ := s.silentRaised_zone (id := id) z
    rw [hexists]
    by_cases h : s.Serves id z
    · rw [hserves h, Zone.raise, EventKind.isIn_raised]
      simp [h]
    · rw [hnot h]
      simp [h]

end

/-! ## A list of nodes -/

theorem State.WentSilent.refl (s : State) : s.WentSilent (fun _ => false) s := by
  have hno : ∀ b, ¬ s.RowSilent (fun _ => false) b := fun b ⟨_, _, h, _⟩ => Bool.noConfusion h
  refine ⟨.refl s, rfl, rfl, fun _ => ⟨rfl, rfl⟩, fun _ _ => ⟨rfl, rfl, rfl, rfl, rfl, rfl, id, fun _ _ h => h⟩,
    fun b hb => absurd hb (hno b), fun _ _ => rfl, fun z _ => ?_, fun z _ => ?_, fun z _ => ?_⟩
  · simp
  · exact (Zone.Stepped.refl _).silenced.congr fun g _ => by simp
  · simp

/-- Each of several nodes gone silent, with what keeps the state legal (R82). -/
theorem State.goSilents_wentSilent {s : State} (hs : s.Legal) {l : List Nat} (hnodup : l.Nodup)
    (hlive : ∀ k ∈ l, (s.node (nodeIdOf k)).state = .live) (hexist : ∀ k ∈ l, (nodeIdOf k).Exists) :
    s.WentSilent (fun j => decide (∃ k ∈ l, j = nodeIdOf k)) (l.foldl (fun s k => s.goSilent (nodeIdOf k)) s) := by
  induction l generalizing s with
  | nil => exact (State.WentSilent.refl s).congr hs fun _ _ => by simp
  | cons k l ih =>
    obtain ⟨hfresh, hrest⟩ := List.nodup_cons.mp hnodup
    have hk := hexist k List.mem_cons_self
    have hstep := s.goSilent_wentSilent hk
    have hlegal := (State.goSilent_keeps (B := fun _ => False) (L := fun _ => False) hs (hlive k List.mem_cons_self)).legal
    have hlater := ih hlegal hrest (fun j hj => ?_) fun j hj => hexist j (List.mem_cons_of_mem k hj)
    · exact (hstep.trans hs hlater).congr hs fun j _ => by simp
    · have hstate := (hstep.nodes _ (hexist j (List.mem_cons_of_mem k hj))).state
      rw [decide_eq_false fun heq => hfresh ?_] at hstate
      · exact hstate.trans (hlive j (List.mem_cons_of_mem k hj))
      · have hkey := congrArg NodeId.key heq
        rw [nodeIdOf_key, nodeIdOf_key] at hkey
        exact hkey ▸ hj

end Sys2Proof.Machine
end

section
/-! CERTIFICATE. A break takes a line to FAULT (R72, R82, R88, R128). -/

namespace Sys2Proof.Machine

/-! ## The line in FAULT, before its nodes go silent -/

/-- The line in FAULT, its visit abandoned and LINE_FAULT raised (R82). -/
def State.faultEntered (s : State) (l : Nat) : State :=
  ((s.setLine l (s.line l).faulted).abandonVisit l (s.line l).visit).raiseSite .lineFault

theorem State.abandonVisit_eq (s : State) (l : Nat) (v : Option Visit) :
    s.abandonVisit l v = { s with nodes := (s.abandonVisit l v).nodes } := by
  unfold State.abandonVisit
  split
  · split
    · exact s.markOutput_eq _
    · rfl
  · rfl

section
variable (s : State) (l : Nat)

theorem State.faultEntered_eq : s.faultEntered l =
    { s with lines := (s.faultEntered l).lines, nodes := (s.faultEntered l).nodes,
             sitePending := raised s.site.mask .lineFault s.sitePending } := by
  unfold State.faultEntered
  rw [State.abandonVisit_eq]
  rfl

theorem State.faultEntered_line (i : Nat) : (s.faultEntered l).line i = if i = l then (s.line l).faulted else s.line i := by
  have hlines : (s.faultEntered l).line i = (s.setLine l (s.line l).faulted).line i := by
    unfold State.faultEntered
    rw [State.abandonVisit_eq]
    rfl
  rw [hlines, State.line_setLine]

theorem State.faultEntered_node (j : NodeId) : (s.faultEntered l).node j = s.node j ∨ (s.faultEntered l).node j = (s.node j).marked := by
  have hnode : (s.faultEntered l).node j = ((s.setLine l (s.line l).faulted).abandonVisit l (s.line l).visit).node j := rfl
  rw [hnode]
  unfold State.abandonVisit
  split
  · split
    · rw [State.node_markOutput]
      split
      · exact .inr rfl
      · exact .inl rfl
    · exact .inl rfl
  · exact .inl rfl

/-- What stands of a node's record after the visit is abandoned: all but its mark. -/
theorem State.faultEntered_kept (j : NodeId) : ((s.faultEntered l).node j).service = (s.node j).service
    ∧ (s.node j).SameLink ((s.faultEntered l).node j) := by
  have hmarked : (s.node j).marked.service = (s.node j).service ∧ (s.node j).SameLink (s.node j).marked := by
    unfold Node.marked
    split
    · exact ⟨rfl, .refl _⟩
    · exact ⟨rfl, rfl, rfl, rfl, rfl, rfl, rfl, rfl⟩
  rcases s.faultEntered_node l j with h | h
  · rw [h]
    exact ⟨rfl, .refl _⟩
  · rw [h]
    exact hmarked

/-- The command of the abandoned visit is set pending again (R82). -/
theorem State.faultEntered_mark {v : Visit} (hv : (s.line l).visit = some v) (hcommand : v.command = true)
    (hon : (s.node ⟨l, v.address⟩).state ≠ .off) : ((s.faultEntered l).node ⟨l, v.address⟩).outputPending = true := by
  show (((s.setLine l (s.line l).faulted).abandonVisit l (s.line l).visit).node ⟨l, v.address⟩).outputPending = true
  unfold State.abandonVisit
  rw [hv]
  simp only [hcommand, if_true]
  rw [State.node_markOutput, if_pos rfl]
  exact congrArg Node.outputPending (Node.marked_on (n := s.node ⟨l, v.address⟩) hon)

end

theorem State.faultEntered_legal {s : State} (hs : s.Legal) {l : Nat} (hl : l < 4) (hde : (s.line l).de = false) :
    (s.faultEntered l).Legal := by
  have hset := hs.setLine hl (Line.faulted_legal (hs.line l) hde)
  have habandoned := (State.abandonVisit_keeps hset (E := ⟨[], fun _ => False, fun _ => False⟩) l (s.line l).visit).legal
  exact (State.raiseSite_keeps habandoned ⟨[], fun _ => False, fun _ => False⟩ .lineFault).legal

/-! ## The nodes of the line -/

theorem State.Legal.live_exists {s : State} (hs : s.Legal) {k : Nat} (h : (s.node (nodeIdOf k)).state = .live) :
    (nodeIdOf k).Exists := by
  have hlisted := hs.nodeIdOf_exists (hs.mem_nodes (id := nodeIdOf k) (by simp [h]))
  rwa [nodeIdOf_key] at hlisted

/-- The nodes that go silent with their line (R82). -/
theorem State.mem_liveNodes_iff {s : State} (l : Nat) {j : NodeId} (hj : j.Exists) :
    (∃ k ∈ s.liveNodes l, j = nodeIdOf k) ↔ j.line = l ∧ (s.node j).state = .live := by
  constructor
  · rintro ⟨k, hk, rfl⟩
    obtain ⟨hlive, hline⟩ := State.mem_liveNodes.mp hk
    exact ⟨hline, hlive⟩
  · rintro ⟨hline, hlive⟩
    refine ⟨j.key, State.mem_liveNodes.mpr ⟨?_, (NodeId.key_div hj).trans hline⟩, ?_⟩
    · rw [s.node_nodeIdOf_key]
      exact hlive
    · refine Classical.byContradiction fun hne => ?_
      have hkey := nodeIdOf_key j.key
      obtain ⟨-, -, ha⟩ := hj
      refine hne ?_
      obtain ⟨line, address⟩ := j
      simp only [NodeId.key] at ha ⊢
      simp only [nodeIdOf, NodeId.mk.injEq]
      omega

/-! ## The statement -/

/-- The silences of a line in FAULT, taken in some order (R82; log entry 10). -/
theorem State.enterFault_wentSilent {s : State} (hs : s.Legal) {l : Nat} (hl : l < 4) (hde : (s.line l).de = false) :
    ∃ c, ({ s.faultEntered l with choices := c } : State).WentSilent
      (fun j => decide (j.line = l) && decide ((s.node j).state = .live)) (s.enterFault l) := by
  obtain ⟨ks, c, hperm, heq⟩ := (s.faultEntered l).inAnyOrder_eq (fun s k => s.goSilent (nodeIdOf k)) ((s.faultEntered l).liveNodes l)
  have hentered := State.faultEntered_legal hs hl hde
  have hlegal := (State.choices_keeps hentered c ⟨[], fun _ => False, fun _ => False⟩).legal
  have hlive : ∀ k ∈ ks, ((s.faultEntered l).node (nodeIdOf k)).state = .live := fun k hk =>
    (State.mem_liveNodes.mp (hperm.mem_iff.mp hk)).1
  have hwent := State.goSilents_wentSilent hlegal (hperm.nodup_iff.mpr (hentered.liveNodes_nodup l)) hlive
    fun k hk => hentered.live_exists (hlive k hk)
  have hfault : s.enterFault l = ks.foldl (fun s k => s.goSilent (nodeIdOf k)) { s.faultEntered l with choices := c } := heq
  refine ⟨c, hfault ▸ hwent.congr hlegal fun j hj => ?_⟩
  have hmem := (s.faultEntered l).mem_liveNodes_iff l hj
  rw [(s.faultEntered_kept l j).2.state] at hmem
  rw [Bool.eq_iff_iff, decide_eq_true_eq, Bool.and_eq_true, decide_eq_true_eq, decide_eq_true_eq, ← hmem]
  simp only [hperm.mem_iff]

/-- State `u` has the zones, bays and bindings of `s`, and node records that differ in marks at most. -/
structure State.ReadsAs (s u : State) : Prop where
  zone : ∀ z, u.zone z = s.zone z
  bay : ∀ b, u.bay b = s.bay b
  service : ∀ j, (u.node j).service = (s.node j).service
  link : ∀ j, (s.node j).SameLink (u.node j)

theorem State.ReadsAs.serves_iff {s u : State} (h : s.ReadsAs u) (id : NodeId) (z : Nat) : u.Serves id z ↔ s.Serves id z := by
  simp only [State.Serves, h.service, h.zone, h.bay]

/-- What the statement says of nodes that go silent (R72). -/
theorem State.WentSilent.silenced {s u t : State} {p : NodeId → Bool} (h : s.ReadsAs u) (k : u.WentSilent p t)
    (tallies : s.TalliesAgree → t.TalliesAgree) : s.Silenced t p := by
  have hrow : ∀ {id : NodeId} {r n : Nat} {g : LightSet} {b : Nat}, (s.node id).service = .row r n g →
      ((u.node id).service.rowNumber = some (b / 16) ↔ b / 16 = r) := fun {id r n g b} hv => by
    rw [h.service, hv]
    exact Option.some_inj.trans eq_comm
  refine ⟨fun id hid => ?_, fun id hid => ?_, fun id e a hid hv => ?_, fun b id r n g hid hp hv hb => ?_, fun b hno => ?_,
    fun z hz => ?_, fun z => ?_, fun z i g hz hg hp hfan hbusy honly => ?_, tallies⟩
  · rw [(k.nodes id hid).state, (h.link id).state]
  · have hnode := k.nodes id hid
    have hlink := h.link id
    exact ⟨hnode.toggle.trans hlink.toggle, hnode.marker.trans hlink.marker, hnode.kind.trans hlink.kind,
      hnode.row.trans hlink.row⟩
  · exact (k.nodes id hid).answer e a ((h.service id).trans hv)
  · rw [k.dark b ⟨id, hid, hp, (hrow hv).mpr hb⟩, h.bay]
    rfl
  · rw [k.bays b, h.bay]
    rintro ⟨id, hid, hp, hnumber⟩
    rw [Service.rowNumber, h.service] at hnumber
    obtain ⟨⟨r, n⟩, hbinding, hr⟩ := Option.map_eq_some_iff.mp hnumber
    obtain ⟨g, hv⟩ := Service.rowBinding_eq_some.mp hbinding
    exact hno id r n g hid hp hv hr.symm
  · rw [k.slots z hz, h.zone]
    exact List.map_congr_left fun g _ => by rw [h.service]; rfl
  · rw [(k.fume z).1, (k.fume z).2, h.zone]
    exact ⟨rfl, rfl⟩
  · have hstages := k.stages z hz
    rw [h.zone] at hstages
    exact hstages.own i g hg hbusy honly ⟨hp, (h.service g.node).trans hfan⟩

/-- A line in FAULT before its nodes go silent reads as the line did. -/
theorem State.faultEntered_reads (s : State) (l c : Nat) : s.ReadsAs { s.faultEntered l with choices := c } := by
  have heq := s.faultEntered_eq l
  refine ⟨fun z => ?_, fun b => ?_, fun j => (s.faultEntered_kept l j).1, fun j => (s.faultEntered_kept l j).2⟩
  · exact State.zone_of_zones (congrArg State.zones heq) z
  · exact State.bay_of_bays (congrArg State.bays heq) b

theorem State.faultEntered_frame (s : State) (l c : Nat) : s.FieldFrame { s.faultEntered l with choices := c } := by
  rw [s.faultEntered_eq l]
  exact ⟨rfl, rfl, rfl, rfl, rfl, rfl, rfl, rfl, rfl, fun _ => ⟨rfl, rfl, rfl, rfl⟩, fun _ => .refl _⟩

/-- Settles O45. -/
theorem breakTakesTheLineToFault : Obligations.BreakTakesTheLineToFault := by
  intro s l hheld hs hl hscan hrx hde silent
  obtain ⟨c, hwent⟩ := State.enterFault_wentSilent hs hl hde
  have hreads := s.faultEntered_reads l c
  have hexec : exec (.breakDetected l) s = .next (s.enterFault l).withOutputs := by
    refine (event_running hheld _).trans ?_
    exact congrArg (fun v : State => Host.Outcome.next v.withOutputs) (if_pos ⟨hscan, hrx, hde⟩)
  have hline : ∀ i, (s.enterFault l).line i = if i = l then (s.line l).faulted else s.line i := fun i => by
    rw [← s.faultEntered_line, State.line, hwent.lines]
    rfl
  have htallies : s.TalliesAgree → (s.enterFault l).withOutputs.TalliesAgree := fun hagree =>
    (State.talliesBut_nil _).mp ((exec_keeps hs (c := .breakDetected l) (decide_eq_true hl) hexec).tallies
      ((State.talliesBut_nil s).mpr hagree))
  have hsilenced : s.Silenced (s.enterFault l) silent := hwent.silenced hreads htallies
  have hfault : (s.enterFault l).withOutputs.out.fault = true :=
    (s.enterFault l).faultLevel_iff.mpr (.inr ⟨l, hl, by rw [hline, if_pos rfl]; rfl⟩)
  refine ⟨_, hexec, { (s.faultEntered_frame l c).trans hwent.field with }, { hsilenced with }, hfault,
    (hline l).trans (if_pos rfl), fun i hi => (hline i).trans (if_neg hi), fun j hj => ?misses, fun v hv hcommand hon => ?mark,
    ?site, fun z hz => ?events⟩
  case misses => exact (hwent.nodes j hj).misses.trans (hreads.link j).misses
  case mark =>
    obtain ⟨-, -, -, hvisits, -⟩ := hs.line l
    exact (hwent.nodes ⟨l, v.address⟩ ⟨hl, hvisits v hv⟩).mark (s.faultEntered_mark l hv hcommand hon)
  case site =>
    have hkept := hwent.lineFault
    have hraised : ({ s.faultEntered l with choices := c } : State).sitePending = raised s.site.mask .lineFault s.sitePending :=
      congrArg State.sitePending (s.faultEntered_eq l)
    rw [hraised, EventKind.isIn_raised] at hkept
    have hiff : EventKind.isIn .lineFault (s.enterFault l).sitePending = true ↔
        EventKind.isIn .lineFault s.sitePending = true ∨ EventKind.isIn .lineFault s.site.mask = true := by
      rw [hkept]
      simp
    exact hiff
  case events =>
    have hiff := hwent.events z hz
    simp only [hreads.zone, hreads.serves_iff] at hiff
    exact hiff

end Sys2Proof.Machine
end
